-- ==== Sys2Proof/Word.lean ====
section
/-! DEFINITION. The word types: an 8-bit byte and a 16-bit word (spec/00_scope.md R6), and the 2-bit colour index and
shade of the picture unit (spec/10_state.md R46, R49). -/

namespace Sys2Proof

/-- An 8-bit byte: the addressable unit, and the width of a general register (R6, R100). -/
abbrev Byte := BitVec 8

/-- A 16-bit word: a register pair, `SP`, `PC`, an address (R6, R20, R100). -/
abbrev Word := BitVec 16

/-- A 2-bit colour index, 0 to 3: one entry of the decoded tile cache (R46). -/
abbrev Colour := BitVec 2

/-- A 2-bit shade, 0 to 3: what a palette maps a colour index to, and one entry of a line buffer (R48, R49). -/
abbrev Shade := BitVec 2

end Sys2Proof
end

