-- ==== Sys2Proof/Machine/Bits.lean ====
section
/-! DEFINITION. The bit-field, byte-order and sign-extension helpers of spec/00_scope.md R8 and R9. -/

namespace Sys2Proof.Machine

/-- `w[7:0]` (R8). -/
def lo8 (w : Word) : Byte := w.extractLsb' 0 8

/-- `w[15:8]` (R8). -/
def hi8 (w : Word) : Byte := w.extractLsb' 8 8

/-- `{hi, lo}`: the high byte in bits 15:8 (R8, R21). -/
def mk16 (hi lo : Byte) : Word := hi ++ lo

/-- `sext_16(e)`: the offset byte as two's complement (R9, R147). -/
def sext16 (e : Byte) : Word := e.signExtend 16

/-- The masked write of a Bit Register: the bits of `mask` taken from `v`, the others kept from `old` (R61, R62). -/
def maskedWrite (old v mask : Byte) : Byte := (old &&& ~~~mask) ||| (v &&& mask)

/-- The 2-bit field `b[2i+1 : 2i]` (R366). -/
def field2 (b : Byte) (i : Nat) : BitVec 2 := b.extractLsb' (2 * i) 2

end Sys2Proof.Machine
end

