-- ==== Sys2Proof/Config.lean ====
section
/-! DEFINITION. The spec's named parameters (spec/00_scope.md R7), each fixed at the default the spec gives it. `ROM` has
no default and is an argument of `State.powerOn`; `CLOCK_BITS` is unbounded, so clock values are naturals (log 6). -/

namespace Sys2Proof.Config

/-- `INIT_RAM`: every byte that neither the ROM image nor the power-on table sets (R463, D37; log 2). -/
def initRam : Byte := 0x00

/-- `JOYPAD0`: the joypad state at power-on, nothing pressed (R43, D34; log 4). -/
def joypad0 : Byte := 0xFF

/-- `STAT_PT_ENABLE_BIT`: the STAT bit that gates the pixel-transfer-entry interrupt (R71, D19; log 3). -/
def statPtEnableBit : Nat := 3

/-- The power-on table of I/O registers, in ascending address order (R464, D36; log 5). -/
def powerOnTable : List (Nat × Byte) :=
  [(0xFF05, 0x00), (0xFF06, 0x00), (0xFF07, 0x00)] ++
  [(0xFF10, 0x80), (0xFF11, 0xBF), (0xFF12, 0xF3), (0xFF14, 0xBF), (0xFF16, 0x3F), (0xFF17, 0x00), (0xFF19, 0xBF),
   (0xFF1A, 0x7F), (0xFF1B, 0xFF), (0xFF1C, 0x9F), (0xFF1E, 0xBF), (0xFF20, 0xFF), (0xFF21, 0x00), (0xFF22, 0x00),
   (0xFF23, 0xBF), (0xFF24, 0x77), (0xFF25, 0xF3), (0xFF26, 0xF1)] ++
  [(0xFF40, 0x91), (0xFF42, 0x00), (0xFF43, 0x00), (0xFF45, 0x00), (0xFF47, 0xFC), (0xFF48, 0xFF), (0xFF49, 0xFF),
   (0xFF4A, 0x00), (0xFF4B, 0x00), (0xFFFF, 0x00)]

end Sys2Proof.Config
end

