-- ==== Sys2Proof/Syntax.lean ====
section
/-! DEFINITION. The instruction set as syntax: the operand index sets of spec/30_encoding.md (R148 to R152) and the ONE
inductive `Instr`, one constructor per row of spec/opcode_table.json (511 rows, R161), in the order of the spec's instruction files. A constructor's name is the
table row's assembler form (R162): `_` separates the operands, `m` before a name is a pair of parentheses, so that
`ld_mHL_B` is `LD (HL),B`; `mHLI` and `mHLD` are `(HL+)` and `(HL-)`. -/

namespace Sys2Proof

/-- The seven 8-bit registers an index `r8[i]` can name (R148, indices 0 to 5 and 7). -/
inductive R8 where
  | b | c | d | e | h | l | a
  deriving DecidableEq, Repr

/-- The operand that `r8[i]` denotes (R148): a register, or (index 6) the byte at address `HL`. -/
inductive Loc8 where
  | reg (r : R8)
  | memHL
  deriving DecidableEq, Repr

/-- The 16-bit registers `r16[p]` names (R149). -/
inductive R16 where
  | bc | de | hl | sp
  deriving DecidableEq, Repr

/-- The 16-bit registers `r16stk[p]` names, for `PUSH` and `POP` (R150). -/
inductive R16Stk where
  | bc | de | hl | af
  deriving DecidableEq, Repr

/-- The four conditions `cc` (R151). -/
inductive Cond where
  | nz | z | nc | c
  deriving DecidableEq, Repr

/-- The eight accumulator operations `alu[y]` (R152). -/
inductive AluOp where
  | add | adc | sub | sbc | and | xor | or | cp
  deriving DecidableEq, Repr

/-- The eight rotates and shifts `rot[y]` of the extended set (R152). -/
inductive RotOp where
  | rlc | rrc | rl | rr | sla | sra | swap | srl
  deriving DecidableEq, Repr

/-- The instructions. `n` is an unsigned byte, `e` the offset byte (taken as two's complement where it is used,
R147), `nn` a 16-bit value. `STOP` keeps the byte that follows it (fetched and ignored, R313). -/
inductive Instr where
  -- spec/40_load8.md
  /-- 0x02 `LD (BC),A` (R178) -/
  | ld_mBC_A
  /-- 0x06 `LD B,n` (R172) -/
  | ld_B_n (n : Byte)
  /-- 0x0A `LD A,(BC)` (R176) -/
  | ld_A_mBC
  /-- 0x0E `LD C,n` (R172) -/
  | ld_C_n (n : Byte)
  /-- 0x12 `LD (DE),A` (R179) -/
  | ld_mDE_A
  /-- 0x16 `LD D,n` (R172) -/
  | ld_D_n (n : Byte)
  /-- 0x1A `LD A,(DE)` (R177) -/
  | ld_A_mDE
  /-- 0x1E `LD E,n` (R172) -/
  | ld_E_n (n : Byte)
  /-- 0x22 `LD (HL+),A` (R186) -/
  | ld_mHLI_A
  /-- 0x26 `LD H,n` (R172) -/
  | ld_H_n (n : Byte)
  /-- 0x2A `LD A,(HL+)` (R187) -/
  | ld_A_mHLI
  /-- 0x2E `LD L,n` (R172) -/
  | ld_L_n (n : Byte)
  /-- 0x32 `LD (HL-),A` (R188) -/
  | ld_mHLD_A
  /-- 0x36 `LD (HL),n` (R175) -/
  | ld_mHL_n (n : Byte)
  /-- 0x3A `LD A,(HL-)` (R189) -/
  | ld_A_mHLD
  /-- 0x3E `LD A,n` (R172) -/
  | ld_A_n (n : Byte)
  /-- 0x40 `LD B,B` (R171) -/
  | ld_B_B
  /-- 0x41 `LD B,C` (R171) -/
  | ld_B_C
  /-- 0x42 `LD B,D` (R171) -/
  | ld_B_D
  /-- 0x43 `LD B,E` (R171) -/
  | ld_B_E
  /-- 0x44 `LD B,H` (R171) -/
  | ld_B_H
  /-- 0x45 `LD B,L` (R171) -/
  | ld_B_L
  /-- 0x46 `LD B,(HL)` (R173) -/
  | ld_B_mHL
  /-- 0x47 `LD B,A` (R171) -/
  | ld_B_A
  /-- 0x48 `LD C,B` (R171) -/
  | ld_C_B
  /-- 0x49 `LD C,C` (R171) -/
  | ld_C_C
  /-- 0x4A `LD C,D` (R171) -/
  | ld_C_D
  /-- 0x4B `LD C,E` (R171) -/
  | ld_C_E
  /-- 0x4C `LD C,H` (R171) -/
  | ld_C_H
  /-- 0x4D `LD C,L` (R171) -/
  | ld_C_L
  /-- 0x4E `LD C,(HL)` (R173) -/
  | ld_C_mHL
  /-- 0x4F `LD C,A` (R171) -/
  | ld_C_A
  /-- 0x50 `LD D,B` (R171) -/
  | ld_D_B
  /-- 0x51 `LD D,C` (R171) -/
  | ld_D_C
  /-- 0x52 `LD D,D` (R171) -/
  | ld_D_D
  /-- 0x53 `LD D,E` (R171) -/
  | ld_D_E
  /-- 0x54 `LD D,H` (R171) -/
  | ld_D_H
  /-- 0x55 `LD D,L` (R171) -/
  | ld_D_L
  /-- 0x56 `LD D,(HL)` (R173) -/
  | ld_D_mHL
  /-- 0x57 `LD D,A` (R171) -/
  | ld_D_A
  /-- 0x58 `LD E,B` (R171) -/
  | ld_E_B
  /-- 0x59 `LD E,C` (R171) -/
  | ld_E_C
  /-- 0x5A `LD E,D` (R171) -/
  | ld_E_D
  /-- 0x5B `LD E,E` (R171) -/
  | ld_E_E
  /-- 0x5C `LD E,H` (R171) -/
  | ld_E_H
  /-- 0x5D `LD E,L` (R171) -/
  | ld_E_L
  /-- 0x5E `LD E,(HL)` (R173) -/
  | ld_E_mHL
  /-- 0x5F `LD E,A` (R171) -/
  | ld_E_A
  /-- 0x60 `LD H,B` (R171) -/
  | ld_H_B
  /-- 0x61 `LD H,C` (R171) -/
  | ld_H_C
  /-- 0x62 `LD H,D` (R171) -/
  | ld_H_D
  /-- 0x63 `LD H,E` (R171) -/
  | ld_H_E
  /-- 0x64 `LD H,H` (R171) -/
  | ld_H_H
  /-- 0x65 `LD H,L` (R171) -/
  | ld_H_L
  /-- 0x66 `LD H,(HL)` (R173) -/
  | ld_H_mHL
  /-- 0x67 `LD H,A` (R171) -/
  | ld_H_A
  /-- 0x68 `LD L,B` (R171) -/
  | ld_L_B
  /-- 0x69 `LD L,C` (R171) -/
  | ld_L_C
  /-- 0x6A `LD L,D` (R171) -/
  | ld_L_D
  /-- 0x6B `LD L,E` (R171) -/
  | ld_L_E
  /-- 0x6C `LD L,H` (R171) -/
  | ld_L_H
  /-- 0x6D `LD L,L` (R171) -/
  | ld_L_L
  /-- 0x6E `LD L,(HL)` (R173) -/
  | ld_L_mHL
  /-- 0x6F `LD L,A` (R171) -/
  | ld_L_A
  /-- 0x70 `LD (HL),B` (R174) -/
  | ld_mHL_B
  /-- 0x71 `LD (HL),C` (R174) -/
  | ld_mHL_C
  /-- 0x72 `LD (HL),D` (R174) -/
  | ld_mHL_D
  /-- 0x73 `LD (HL),E` (R174) -/
  | ld_mHL_E
  /-- 0x74 `LD (HL),H` (R174) -/
  | ld_mHL_H
  /-- 0x75 `LD (HL),L` (R174) -/
  | ld_mHL_L
  /-- 0x77 `LD (HL),A` (R174) -/
  | ld_mHL_A
  /-- 0x78 `LD A,B` (R171) -/
  | ld_A_B
  /-- 0x79 `LD A,C` (R171) -/
  | ld_A_C
  /-- 0x7A `LD A,D` (R171) -/
  | ld_A_D
  /-- 0x7B `LD A,E` (R171) -/
  | ld_A_E
  /-- 0x7C `LD A,H` (R171) -/
  | ld_A_H
  /-- 0x7D `LD A,L` (R171) -/
  | ld_A_L
  /-- 0x7E `LD A,(HL)` (R173) -/
  | ld_A_mHL
  /-- 0x7F `LD A,A` (R171) -/
  | ld_A_A
  /-- 0xE0 `LDH (n),A` (R183) -/
  | ldh_mn_A (n : Byte)
  /-- 0xE2 `LD (C),A` (R185) -/
  | ld_mC_A
  /-- 0xEA `LD (nn),A` (R181) -/
  | ld_mnn_A (nn : Word)
  /-- 0xF0 `LDH A,(n)` (R182) -/
  | ldh_A_mn (n : Byte)
  /-- 0xF2 `LD A,(C)` (R184) -/
  | ld_A_mC
  /-- 0xFA `LD A,(nn)` (R180) -/
  | ld_A_mnn (nn : Word)
  -- spec/41_load16.md
  /-- 0x01 `LD BC,nn` (R201) -/
  | ld_BC_nn (nn : Word)
  /-- 0x08 `LD (nn),SP` (R202) -/
  | ld_mnn_SP (nn : Word)
  /-- 0x11 `LD DE,nn` (R201) -/
  | ld_DE_nn (nn : Word)
  /-- 0x21 `LD HL,nn` (R201) -/
  | ld_HL_nn (nn : Word)
  /-- 0x31 `LD SP,nn` (R201) -/
  | ld_SP_nn (nn : Word)
  /-- 0xC1 `POP BC` (R206) -/
  | pop_BC
  /-- 0xC5 `PUSH BC` (R205) -/
  | push_BC
  /-- 0xD1 `POP DE` (R206) -/
  | pop_DE
  /-- 0xD5 `PUSH DE` (R205) -/
  | push_DE
  /-- 0xE1 `POP HL` (R206) -/
  | pop_HL
  /-- 0xE5 `PUSH HL` (R205) -/
  | push_HL
  /-- 0xF1 `POP AF` (R207) -/
  | pop_AF
  /-- 0xF5 `PUSH AF` (R205) -/
  | push_AF
  /-- 0xF8 `LD HL,SP+e` (R204) -/
  | ld_HL_SPe (e : Byte)
  /-- 0xF9 `LD SP,HL` (R203) -/
  | ld_SP_HL
  -- spec/42_alu8.md
  /-- 0x04 `INC B` (R225) -/
  | inc_B
  /-- 0x05 `DEC B` (R227) -/
  | dec_B
  /-- 0x0C `INC C` (R225) -/
  | inc_C
  /-- 0x0D `DEC C` (R227) -/
  | dec_C
  /-- 0x14 `INC D` (R225) -/
  | inc_D
  /-- 0x15 `DEC D` (R227) -/
  | dec_D
  /-- 0x1C `INC E` (R225) -/
  | inc_E
  /-- 0x1D `DEC E` (R227) -/
  | dec_E
  /-- 0x24 `INC H` (R225) -/
  | inc_H
  /-- 0x25 `DEC H` (R227) -/
  | dec_H
  /-- 0x27 `DAA` (R229) -/
  | daa
  /-- 0x2C `INC L` (R225) -/
  | inc_L
  /-- 0x2D `DEC L` (R227) -/
  | dec_L
  /-- 0x2F `CPL` (R230) -/
  | cpl
  /-- 0x34 `INC (HL)` (R226) -/
  | inc_mHL
  /-- 0x35 `DEC (HL)` (R228) -/
  | dec_mHL
  /-- 0x37 `SCF` (R231) -/
  | scf
  /-- 0x3C `INC A` (R225) -/
  | inc_A
  /-- 0x3D `DEC A` (R227) -/
  | dec_A
  /-- 0x3F `CCF` (R232) -/
  | ccf
  /-- 0x80 `ADD A,B` (R217) -/
  | add_A_B
  /-- 0x81 `ADD A,C` (R217) -/
  | add_A_C
  /-- 0x82 `ADD A,D` (R217) -/
  | add_A_D
  /-- 0x83 `ADD A,E` (R217) -/
  | add_A_E
  /-- 0x84 `ADD A,H` (R217) -/
  | add_A_H
  /-- 0x85 `ADD A,L` (R217) -/
  | add_A_L
  /-- 0x86 `ADD A,(HL)` (R217) -/
  | add_A_mHL
  /-- 0x87 `ADD A,A` (R217) -/
  | add_A_A
  /-- 0x88 `ADC A,B` (R218) -/
  | adc_A_B
  /-- 0x89 `ADC A,C` (R218) -/
  | adc_A_C
  /-- 0x8A `ADC A,D` (R218) -/
  | adc_A_D
  /-- 0x8B `ADC A,E` (R218) -/
  | adc_A_E
  /-- 0x8C `ADC A,H` (R218) -/
  | adc_A_H
  /-- 0x8D `ADC A,L` (R218) -/
  | adc_A_L
  /-- 0x8E `ADC A,(HL)` (R218) -/
  | adc_A_mHL
  /-- 0x8F `ADC A,A` (R218) -/
  | adc_A_A
  /-- 0x90 `SUB A,B` (R219) -/
  | sub_A_B
  /-- 0x91 `SUB A,C` (R219) -/
  | sub_A_C
  /-- 0x92 `SUB A,D` (R219) -/
  | sub_A_D
  /-- 0x93 `SUB A,E` (R219) -/
  | sub_A_E
  /-- 0x94 `SUB A,H` (R219) -/
  | sub_A_H
  /-- 0x95 `SUB A,L` (R219) -/
  | sub_A_L
  /-- 0x96 `SUB A,(HL)` (R219) -/
  | sub_A_mHL
  /-- 0x97 `SUB A,A` (R219) -/
  | sub_A_A
  /-- 0x98 `SBC A,B` (R220) -/
  | sbc_A_B
  /-- 0x99 `SBC A,C` (R220) -/
  | sbc_A_C
  /-- 0x9A `SBC A,D` (R220) -/
  | sbc_A_D
  /-- 0x9B `SBC A,E` (R220) -/
  | sbc_A_E
  /-- 0x9C `SBC A,H` (R220) -/
  | sbc_A_H
  /-- 0x9D `SBC A,L` (R220) -/
  | sbc_A_L
  /-- 0x9E `SBC A,(HL)` (R220) -/
  | sbc_A_mHL
  /-- 0x9F `SBC A,A` (R220) -/
  | sbc_A_A
  /-- 0xA0 `AND A,B` (R221) -/
  | and_A_B
  /-- 0xA1 `AND A,C` (R221) -/
  | and_A_C
  /-- 0xA2 `AND A,D` (R221) -/
  | and_A_D
  /-- 0xA3 `AND A,E` (R221) -/
  | and_A_E
  /-- 0xA4 `AND A,H` (R221) -/
  | and_A_H
  /-- 0xA5 `AND A,L` (R221) -/
  | and_A_L
  /-- 0xA6 `AND A,(HL)` (R221) -/
  | and_A_mHL
  /-- 0xA7 `AND A,A` (R221) -/
  | and_A_A
  /-- 0xA8 `XOR A,B` (R222) -/
  | xor_A_B
  /-- 0xA9 `XOR A,C` (R222) -/
  | xor_A_C
  /-- 0xAA `XOR A,D` (R222) -/
  | xor_A_D
  /-- 0xAB `XOR A,E` (R222) -/
  | xor_A_E
  /-- 0xAC `XOR A,H` (R222) -/
  | xor_A_H
  /-- 0xAD `XOR A,L` (R222) -/
  | xor_A_L
  /-- 0xAE `XOR A,(HL)` (R222) -/
  | xor_A_mHL
  /-- 0xAF `XOR A,A` (R222) -/
  | xor_A_A
  /-- 0xB0 `OR A,B` (R223) -/
  | or_A_B
  /-- 0xB1 `OR A,C` (R223) -/
  | or_A_C
  /-- 0xB2 `OR A,D` (R223) -/
  | or_A_D
  /-- 0xB3 `OR A,E` (R223) -/
  | or_A_E
  /-- 0xB4 `OR A,H` (R223) -/
  | or_A_H
  /-- 0xB5 `OR A,L` (R223) -/
  | or_A_L
  /-- 0xB6 `OR A,(HL)` (R223) -/
  | or_A_mHL
  /-- 0xB7 `OR A,A` (R223) -/
  | or_A_A
  /-- 0xB8 `CP A,B` (R224) -/
  | cp_A_B
  /-- 0xB9 `CP A,C` (R224) -/
  | cp_A_C
  /-- 0xBA `CP A,D` (R224) -/
  | cp_A_D
  /-- 0xBB `CP A,E` (R224) -/
  | cp_A_E
  /-- 0xBC `CP A,H` (R224) -/
  | cp_A_H
  /-- 0xBD `CP A,L` (R224) -/
  | cp_A_L
  /-- 0xBE `CP A,(HL)` (R224) -/
  | cp_A_mHL
  /-- 0xBF `CP A,A` (R224) -/
  | cp_A_A
  /-- 0xC6 `ADD A,n` (R217) -/
  | add_A_n (n : Byte)
  /-- 0xCE `ADC A,n` (R218) -/
  | adc_A_n (n : Byte)
  /-- 0xD6 `SUB A,n` (R219) -/
  | sub_A_n (n : Byte)
  /-- 0xDE `SBC A,n` (R220) -/
  | sbc_A_n (n : Byte)
  /-- 0xE6 `AND A,n` (R221) -/
  | and_A_n (n : Byte)
  /-- 0xEE `XOR A,n` (R222) -/
  | xor_A_n (n : Byte)
  /-- 0xF6 `OR A,n` (R223) -/
  | or_A_n (n : Byte)
  /-- 0xFE `CP A,n` (R224) -/
  | cp_A_n (n : Byte)
  -- spec/43_alu16.md
  /-- 0x03 `INC BC` (R252) -/
  | inc_BC
  /-- 0x09 `ADD HL,BC` (R251) -/
  | add_HL_BC
  /-- 0x0B `DEC BC` (R253) -/
  | dec_BC
  /-- 0x13 `INC DE` (R252) -/
  | inc_DE
  /-- 0x19 `ADD HL,DE` (R251) -/
  | add_HL_DE
  /-- 0x1B `DEC DE` (R253) -/
  | dec_DE
  /-- 0x23 `INC HL` (R252) -/
  | inc_HL
  /-- 0x29 `ADD HL,HL` (R251) -/
  | add_HL_HL
  /-- 0x2B `DEC HL` (R253) -/
  | dec_HL
  /-- 0x33 `INC SP` (R252) -/
  | inc_SP
  /-- 0x39 `ADD HL,SP` (R251) -/
  | add_HL_SP
  /-- 0x3B `DEC SP` (R253) -/
  | dec_SP
  /-- 0xE8 `ADD SP,e` (R254) -/
  | add_SP_e (e : Byte)
  -- spec/45_control.md
  /-- 0x18 `JR e` (R294) -/
  | jr_e (e : Byte)
  /-- 0x20 `JR NZ,e` (R295) -/
  | jr_NZ_e (e : Byte)
  /-- 0x28 `JR Z,e` (R295) -/
  | jr_Z_e (e : Byte)
  /-- 0x30 `JR NC,e` (R295) -/
  | jr_NC_e (e : Byte)
  /-- 0x38 `JR C,e` (R295) -/
  | jr_C_e (e : Byte)
  /-- 0xC0 `RET NZ` (R299) -/
  | ret_NZ
  /-- 0xC2 `JP NZ,nn` (R292) -/
  | jp_NZ_nn (nn : Word)
  /-- 0xC3 `JP nn` (R291) -/
  | jp_nn (nn : Word)
  /-- 0xC4 `CALL NZ,nn` (R297) -/
  | call_NZ_nn (nn : Word)
  /-- 0xC7 `RST 0x00` (R301) -/
  | rst_00
  /-- 0xC8 `RET Z` (R299) -/
  | ret_Z
  /-- 0xC9 `RET` (R298) -/
  | ret
  /-- 0xCA `JP Z,nn` (R292) -/
  | jp_Z_nn (nn : Word)
  /-- 0xCC `CALL Z,nn` (R297) -/
  | call_Z_nn (nn : Word)
  /-- 0xCD `CALL nn` (R296) -/
  | call_nn (nn : Word)
  /-- 0xCF `RST 0x08` (R301) -/
  | rst_08
  /-- 0xD0 `RET NC` (R299) -/
  | ret_NC
  /-- 0xD2 `JP NC,nn` (R292) -/
  | jp_NC_nn (nn : Word)
  /-- 0xD4 `CALL NC,nn` (R297) -/
  | call_NC_nn (nn : Word)
  /-- 0xD7 `RST 0x10` (R301) -/
  | rst_10
  /-- 0xD8 `RET C` (R299) -/
  | ret_C
  /-- 0xD9 `RETI` (R300) -/
  | reti
  /-- 0xDA `JP C,nn` (R292) -/
  | jp_C_nn (nn : Word)
  /-- 0xDC `CALL C,nn` (R297) -/
  | call_C_nn (nn : Word)
  /-- 0xDF `RST 0x18` (R301) -/
  | rst_18
  /-- 0xE7 `RST 0x20` (R301) -/
  | rst_20
  /-- 0xE9 `JP HL` (R293) -/
  | jp_HL
  /-- 0xEF `RST 0x28` (R301) -/
  | rst_28
  /-- 0xF7 `RST 0x30` (R301) -/
  | rst_30
  /-- 0xFF `RST 0x38` (R301) -/
  | rst_38
  -- spec/46_system.md
  /-- 0x10 `STOP` (R313) -/
  | stop (n : Byte)
  /-- 0x00 `NOP` (R310) -/
  | nop
  /-- 0x76 `HALT` (R312) -/
  | halt
  /-- 0xD3 `UNDEFINED 0xD3` (R314) -/
  | undefined_D3
  /-- 0xDB `UNDEFINED 0xDB` (R314) -/
  | undefined_DB
  /-- 0xDD `UNDEFINED 0xDD` (R314) -/
  | undefined_DD
  /-- 0xE3 `UNDEFINED 0xE3` (R314) -/
  | undefined_E3
  /-- 0xE4 `UNDEFINED 0xE4` (R314) -/
  | undefined_E4
  /-- 0xEB `UNDEFINED 0xEB` (R314) -/
  | undefined_EB
  /-- 0xEC `UNDEFINED 0xEC` (R314) -/
  | undefined_EC
  /-- 0xED `UNDEFINED 0xED` (R314) -/
  | undefined_ED
  /-- 0xF3 `DI` (R311) -/
  | di
  /-- 0xF4 `UNDEFINED 0xF4` (R314) -/
  | undefined_F4
  /-- 0xFB `EI` (R315) -/
  | ei
  /-- 0xFC `UNDEFINED 0xFC` (R314) -/
  | undefined_FC
  /-- 0xFD `UNDEFINED 0xFD` (R314) -/
  | undefined_FD
  -- spec/44_rotate_shift_bit.md
  /-- 0x07 `RLCA` (R261) -/
  | rlca
  /-- 0x0F `RRCA` (R262) -/
  | rrca
  /-- 0x17 `RLA` (R263) -/
  | rla
  /-- 0x1F `RRA` (R264) -/
  | rra
  /-- 0xCB 0x00 `RLC B` (R265) -/
  | rlc_B
  /-- 0xCB 0x01 `RLC C` (R265) -/
  | rlc_C
  /-- 0xCB 0x02 `RLC D` (R265) -/
  | rlc_D
  /-- 0xCB 0x03 `RLC E` (R265) -/
  | rlc_E
  /-- 0xCB 0x04 `RLC H` (R265) -/
  | rlc_H
  /-- 0xCB 0x05 `RLC L` (R265) -/
  | rlc_L
  /-- 0xCB 0x06 `RLC (HL)` (R265) -/
  | rlc_mHL
  /-- 0xCB 0x07 `RLC A` (R265) -/
  | rlc_A
  /-- 0xCB 0x08 `RRC B` (R266) -/
  | rrc_B
  /-- 0xCB 0x09 `RRC C` (R266) -/
  | rrc_C
  /-- 0xCB 0x0A `RRC D` (R266) -/
  | rrc_D
  /-- 0xCB 0x0B `RRC E` (R266) -/
  | rrc_E
  /-- 0xCB 0x0C `RRC H` (R266) -/
  | rrc_H
  /-- 0xCB 0x0D `RRC L` (R266) -/
  | rrc_L
  /-- 0xCB 0x0E `RRC (HL)` (R266) -/
  | rrc_mHL
  /-- 0xCB 0x0F `RRC A` (R266) -/
  | rrc_A
  /-- 0xCB 0x10 `RL B` (R267) -/
  | rl_B
  /-- 0xCB 0x11 `RL C` (R267) -/
  | rl_C
  /-- 0xCB 0x12 `RL D` (R267) -/
  | rl_D
  /-- 0xCB 0x13 `RL E` (R267) -/
  | rl_E
  /-- 0xCB 0x14 `RL H` (R267) -/
  | rl_H
  /-- 0xCB 0x15 `RL L` (R267) -/
  | rl_L
  /-- 0xCB 0x16 `RL (HL)` (R267) -/
  | rl_mHL
  /-- 0xCB 0x17 `RL A` (R267) -/
  | rl_A
  /-- 0xCB 0x18 `RR B` (R268) -/
  | rr_B
  /-- 0xCB 0x19 `RR C` (R268) -/
  | rr_C
  /-- 0xCB 0x1A `RR D` (R268) -/
  | rr_D
  /-- 0xCB 0x1B `RR E` (R268) -/
  | rr_E
  /-- 0xCB 0x1C `RR H` (R268) -/
  | rr_H
  /-- 0xCB 0x1D `RR L` (R268) -/
  | rr_L
  /-- 0xCB 0x1E `RR (HL)` (R268) -/
  | rr_mHL
  /-- 0xCB 0x1F `RR A` (R268) -/
  | rr_A
  /-- 0xCB 0x20 `SLA B` (R269) -/
  | sla_B
  /-- 0xCB 0x21 `SLA C` (R269) -/
  | sla_C
  /-- 0xCB 0x22 `SLA D` (R269) -/
  | sla_D
  /-- 0xCB 0x23 `SLA E` (R269) -/
  | sla_E
  /-- 0xCB 0x24 `SLA H` (R269) -/
  | sla_H
  /-- 0xCB 0x25 `SLA L` (R269) -/
  | sla_L
  /-- 0xCB 0x26 `SLA (HL)` (R269) -/
  | sla_mHL
  /-- 0xCB 0x27 `SLA A` (R269) -/
  | sla_A
  /-- 0xCB 0x28 `SRA B` (R270) -/
  | sra_B
  /-- 0xCB 0x29 `SRA C` (R270) -/
  | sra_C
  /-- 0xCB 0x2A `SRA D` (R270) -/
  | sra_D
  /-- 0xCB 0x2B `SRA E` (R270) -/
  | sra_E
  /-- 0xCB 0x2C `SRA H` (R270) -/
  | sra_H
  /-- 0xCB 0x2D `SRA L` (R270) -/
  | sra_L
  /-- 0xCB 0x2E `SRA (HL)` (R270) -/
  | sra_mHL
  /-- 0xCB 0x2F `SRA A` (R270) -/
  | sra_A
  /-- 0xCB 0x30 `SWAP B` (R271) -/
  | swap_B
  /-- 0xCB 0x31 `SWAP C` (R271) -/
  | swap_C
  /-- 0xCB 0x32 `SWAP D` (R271) -/
  | swap_D
  /-- 0xCB 0x33 `SWAP E` (R271) -/
  | swap_E
  /-- 0xCB 0x34 `SWAP H` (R271) -/
  | swap_H
  /-- 0xCB 0x35 `SWAP L` (R271) -/
  | swap_L
  /-- 0xCB 0x36 `SWAP (HL)` (R271) -/
  | swap_mHL
  /-- 0xCB 0x37 `SWAP A` (R271) -/
  | swap_A
  /-- 0xCB 0x38 `SRL B` (R272) -/
  | srl_B
  /-- 0xCB 0x39 `SRL C` (R272) -/
  | srl_C
  /-- 0xCB 0x3A `SRL D` (R272) -/
  | srl_D
  /-- 0xCB 0x3B `SRL E` (R272) -/
  | srl_E
  /-- 0xCB 0x3C `SRL H` (R272) -/
  | srl_H
  /-- 0xCB 0x3D `SRL L` (R272) -/
  | srl_L
  /-- 0xCB 0x3E `SRL (HL)` (R272) -/
  | srl_mHL
  /-- 0xCB 0x3F `SRL A` (R272) -/
  | srl_A
  -- spec/44_rotate_shift_bit.md
  /-- 0xCB 0x40 `BIT 0,B` (R273) -/
  | bit_0_B
  /-- 0xCB 0x41 `BIT 0,C` (R273) -/
  | bit_0_C
  /-- 0xCB 0x42 `BIT 0,D` (R273) -/
  | bit_0_D
  /-- 0xCB 0x43 `BIT 0,E` (R273) -/
  | bit_0_E
  /-- 0xCB 0x44 `BIT 0,H` (R273) -/
  | bit_0_H
  /-- 0xCB 0x45 `BIT 0,L` (R273) -/
  | bit_0_L
  /-- 0xCB 0x46 `BIT 0,(HL)` (R273) -/
  | bit_0_mHL
  /-- 0xCB 0x47 `BIT 0,A` (R273) -/
  | bit_0_A
  /-- 0xCB 0x48 `BIT 1,B` (R273) -/
  | bit_1_B
  /-- 0xCB 0x49 `BIT 1,C` (R273) -/
  | bit_1_C
  /-- 0xCB 0x4A `BIT 1,D` (R273) -/
  | bit_1_D
  /-- 0xCB 0x4B `BIT 1,E` (R273) -/
  | bit_1_E
  /-- 0xCB 0x4C `BIT 1,H` (R273) -/
  | bit_1_H
  /-- 0xCB 0x4D `BIT 1,L` (R273) -/
  | bit_1_L
  /-- 0xCB 0x4E `BIT 1,(HL)` (R273) -/
  | bit_1_mHL
  /-- 0xCB 0x4F `BIT 1,A` (R273) -/
  | bit_1_A
  /-- 0xCB 0x50 `BIT 2,B` (R273) -/
  | bit_2_B
  /-- 0xCB 0x51 `BIT 2,C` (R273) -/
  | bit_2_C
  /-- 0xCB 0x52 `BIT 2,D` (R273) -/
  | bit_2_D
  /-- 0xCB 0x53 `BIT 2,E` (R273) -/
  | bit_2_E
  /-- 0xCB 0x54 `BIT 2,H` (R273) -/
  | bit_2_H
  /-- 0xCB 0x55 `BIT 2,L` (R273) -/
  | bit_2_L
  /-- 0xCB 0x56 `BIT 2,(HL)` (R273) -/
  | bit_2_mHL
  /-- 0xCB 0x57 `BIT 2,A` (R273) -/
  | bit_2_A
  /-- 0xCB 0x58 `BIT 3,B` (R273) -/
  | bit_3_B
  /-- 0xCB 0x59 `BIT 3,C` (R273) -/
  | bit_3_C
  /-- 0xCB 0x5A `BIT 3,D` (R273) -/
  | bit_3_D
  /-- 0xCB 0x5B `BIT 3,E` (R273) -/
  | bit_3_E
  /-- 0xCB 0x5C `BIT 3,H` (R273) -/
  | bit_3_H
  /-- 0xCB 0x5D `BIT 3,L` (R273) -/
  | bit_3_L
  /-- 0xCB 0x5E `BIT 3,(HL)` (R273) -/
  | bit_3_mHL
  /-- 0xCB 0x5F `BIT 3,A` (R273) -/
  | bit_3_A
  /-- 0xCB 0x60 `BIT 4,B` (R273) -/
  | bit_4_B
  /-- 0xCB 0x61 `BIT 4,C` (R273) -/
  | bit_4_C
  /-- 0xCB 0x62 `BIT 4,D` (R273) -/
  | bit_4_D
  /-- 0xCB 0x63 `BIT 4,E` (R273) -/
  | bit_4_E
  /-- 0xCB 0x64 `BIT 4,H` (R273) -/
  | bit_4_H
  /-- 0xCB 0x65 `BIT 4,L` (R273) -/
  | bit_4_L
  /-- 0xCB 0x66 `BIT 4,(HL)` (R273) -/
  | bit_4_mHL
  /-- 0xCB 0x67 `BIT 4,A` (R273) -/
  | bit_4_A
  /-- 0xCB 0x68 `BIT 5,B` (R273) -/
  | bit_5_B
  /-- 0xCB 0x69 `BIT 5,C` (R273) -/
  | bit_5_C
  /-- 0xCB 0x6A `BIT 5,D` (R273) -/
  | bit_5_D
  /-- 0xCB 0x6B `BIT 5,E` (R273) -/
  | bit_5_E
  /-- 0xCB 0x6C `BIT 5,H` (R273) -/
  | bit_5_H
  /-- 0xCB 0x6D `BIT 5,L` (R273) -/
  | bit_5_L
  /-- 0xCB 0x6E `BIT 5,(HL)` (R273) -/
  | bit_5_mHL
  /-- 0xCB 0x6F `BIT 5,A` (R273) -/
  | bit_5_A
  /-- 0xCB 0x70 `BIT 6,B` (R273) -/
  | bit_6_B
  /-- 0xCB 0x71 `BIT 6,C` (R273) -/
  | bit_6_C
  /-- 0xCB 0x72 `BIT 6,D` (R273) -/
  | bit_6_D
  /-- 0xCB 0x73 `BIT 6,E` (R273) -/
  | bit_6_E
  /-- 0xCB 0x74 `BIT 6,H` (R273) -/
  | bit_6_H
  /-- 0xCB 0x75 `BIT 6,L` (R273) -/
  | bit_6_L
  /-- 0xCB 0x76 `BIT 6,(HL)` (R273) -/
  | bit_6_mHL
  /-- 0xCB 0x77 `BIT 6,A` (R273) -/
  | bit_6_A
  /-- 0xCB 0x78 `BIT 7,B` (R273) -/
  | bit_7_B
  /-- 0xCB 0x79 `BIT 7,C` (R273) -/
  | bit_7_C
  /-- 0xCB 0x7A `BIT 7,D` (R273) -/
  | bit_7_D
  /-- 0xCB 0x7B `BIT 7,E` (R273) -/
  | bit_7_E
  /-- 0xCB 0x7C `BIT 7,H` (R273) -/
  | bit_7_H
  /-- 0xCB 0x7D `BIT 7,L` (R273) -/
  | bit_7_L
  /-- 0xCB 0x7E `BIT 7,(HL)` (R273) -/
  | bit_7_mHL
  /-- 0xCB 0x7F `BIT 7,A` (R273) -/
  | bit_7_A
  /-- 0xCB 0x80 `RES 0,B` (R274) -/
  | res_0_B
  /-- 0xCB 0x81 `RES 0,C` (R274) -/
  | res_0_C
  /-- 0xCB 0x82 `RES 0,D` (R274) -/
  | res_0_D
  /-- 0xCB 0x83 `RES 0,E` (R274) -/
  | res_0_E
  /-- 0xCB 0x84 `RES 0,H` (R274) -/
  | res_0_H
  /-- 0xCB 0x85 `RES 0,L` (R274) -/
  | res_0_L
  /-- 0xCB 0x86 `RES 0,(HL)` (R274) -/
  | res_0_mHL
  /-- 0xCB 0x87 `RES 0,A` (R274) -/
  | res_0_A
  /-- 0xCB 0x88 `RES 1,B` (R274) -/
  | res_1_B
  /-- 0xCB 0x89 `RES 1,C` (R274) -/
  | res_1_C
  /-- 0xCB 0x8A `RES 1,D` (R274) -/
  | res_1_D
  /-- 0xCB 0x8B `RES 1,E` (R274) -/
  | res_1_E
  /-- 0xCB 0x8C `RES 1,H` (R274) -/
  | res_1_H
  /-- 0xCB 0x8D `RES 1,L` (R274) -/
  | res_1_L
  /-- 0xCB 0x8E `RES 1,(HL)` (R274) -/
  | res_1_mHL
  /-- 0xCB 0x8F `RES 1,A` (R274) -/
  | res_1_A
  /-- 0xCB 0x90 `RES 2,B` (R274) -/
  | res_2_B
  /-- 0xCB 0x91 `RES 2,C` (R274) -/
  | res_2_C
  /-- 0xCB 0x92 `RES 2,D` (R274) -/
  | res_2_D
  /-- 0xCB 0x93 `RES 2,E` (R274) -/
  | res_2_E
  /-- 0xCB 0x94 `RES 2,H` (R274) -/
  | res_2_H
  /-- 0xCB 0x95 `RES 2,L` (R274) -/
  | res_2_L
  /-- 0xCB 0x96 `RES 2,(HL)` (R274) -/
  | res_2_mHL
  /-- 0xCB 0x97 `RES 2,A` (R274) -/
  | res_2_A
  /-- 0xCB 0x98 `RES 3,B` (R274) -/
  | res_3_B
  /-- 0xCB 0x99 `RES 3,C` (R274) -/
  | res_3_C
  /-- 0xCB 0x9A `RES 3,D` (R274) -/
  | res_3_D
  /-- 0xCB 0x9B `RES 3,E` (R274) -/
  | res_3_E
  /-- 0xCB 0x9C `RES 3,H` (R274) -/
  | res_3_H
  /-- 0xCB 0x9D `RES 3,L` (R274) -/
  | res_3_L
  /-- 0xCB 0x9E `RES 3,(HL)` (R274) -/
  | res_3_mHL
  /-- 0xCB 0x9F `RES 3,A` (R274) -/
  | res_3_A
  /-- 0xCB 0xA0 `RES 4,B` (R274) -/
  | res_4_B
  /-- 0xCB 0xA1 `RES 4,C` (R274) -/
  | res_4_C
  /-- 0xCB 0xA2 `RES 4,D` (R274) -/
  | res_4_D
  /-- 0xCB 0xA3 `RES 4,E` (R274) -/
  | res_4_E
  /-- 0xCB 0xA4 `RES 4,H` (R274) -/
  | res_4_H
  /-- 0xCB 0xA5 `RES 4,L` (R274) -/
  | res_4_L
  /-- 0xCB 0xA6 `RES 4,(HL)` (R274) -/
  | res_4_mHL
  /-- 0xCB 0xA7 `RES 4,A` (R274) -/
  | res_4_A
  /-- 0xCB 0xA8 `RES 5,B` (R274) -/
  | res_5_B
  /-- 0xCB 0xA9 `RES 5,C` (R274) -/
  | res_5_C
  /-- 0xCB 0xAA `RES 5,D` (R274) -/
  | res_5_D
  /-- 0xCB 0xAB `RES 5,E` (R274) -/
  | res_5_E
  /-- 0xCB 0xAC `RES 5,H` (R274) -/
  | res_5_H
  /-- 0xCB 0xAD `RES 5,L` (R274) -/
  | res_5_L
  /-- 0xCB 0xAE `RES 5,(HL)` (R274) -/
  | res_5_mHL
  /-- 0xCB 0xAF `RES 5,A` (R274) -/
  | res_5_A
  /-- 0xCB 0xB0 `RES 6,B` (R274) -/
  | res_6_B
  /-- 0xCB 0xB1 `RES 6,C` (R274) -/
  | res_6_C
  /-- 0xCB 0xB2 `RES 6,D` (R274) -/
  | res_6_D
  /-- 0xCB 0xB3 `RES 6,E` (R274) -/
  | res_6_E
  /-- 0xCB 0xB4 `RES 6,H` (R274) -/
  | res_6_H
  /-- 0xCB 0xB5 `RES 6,L` (R274) -/
  | res_6_L
  /-- 0xCB 0xB6 `RES 6,(HL)` (R274) -/
  | res_6_mHL
  /-- 0xCB 0xB7 `RES 6,A` (R274) -/
  | res_6_A
  /-- 0xCB 0xB8 `RES 7,B` (R274) -/
  | res_7_B
  /-- 0xCB 0xB9 `RES 7,C` (R274) -/
  | res_7_C
  /-- 0xCB 0xBA `RES 7,D` (R274) -/
  | res_7_D
  /-- 0xCB 0xBB `RES 7,E` (R274) -/
  | res_7_E
  /-- 0xCB 0xBC `RES 7,H` (R274) -/
  | res_7_H
  /-- 0xCB 0xBD `RES 7,L` (R274) -/
  | res_7_L
  /-- 0xCB 0xBE `RES 7,(HL)` (R274) -/
  | res_7_mHL
  /-- 0xCB 0xBF `RES 7,A` (R274) -/
  | res_7_A
  /-- 0xCB 0xC0 `SET 0,B` (R275) -/
  | set_0_B
  /-- 0xCB 0xC1 `SET 0,C` (R275) -/
  | set_0_C
  /-- 0xCB 0xC2 `SET 0,D` (R275) -/
  | set_0_D
  /-- 0xCB 0xC3 `SET 0,E` (R275) -/
  | set_0_E
  /-- 0xCB 0xC4 `SET 0,H` (R275) -/
  | set_0_H
  /-- 0xCB 0xC5 `SET 0,L` (R275) -/
  | set_0_L
  /-- 0xCB 0xC6 `SET 0,(HL)` (R275) -/
  | set_0_mHL
  /-- 0xCB 0xC7 `SET 0,A` (R275) -/
  | set_0_A
  /-- 0xCB 0xC8 `SET 1,B` (R275) -/
  | set_1_B
  /-- 0xCB 0xC9 `SET 1,C` (R275) -/
  | set_1_C
  /-- 0xCB 0xCA `SET 1,D` (R275) -/
  | set_1_D
  /-- 0xCB 0xCB `SET 1,E` (R275) -/
  | set_1_E
  /-- 0xCB 0xCC `SET 1,H` (R275) -/
  | set_1_H
  /-- 0xCB 0xCD `SET 1,L` (R275) -/
  | set_1_L
  /-- 0xCB 0xCE `SET 1,(HL)` (R275) -/
  | set_1_mHL
  /-- 0xCB 0xCF `SET 1,A` (R275) -/
  | set_1_A
  /-- 0xCB 0xD0 `SET 2,B` (R275) -/
  | set_2_B
  /-- 0xCB 0xD1 `SET 2,C` (R275) -/
  | set_2_C
  /-- 0xCB 0xD2 `SET 2,D` (R275) -/
  | set_2_D
  /-- 0xCB 0xD3 `SET 2,E` (R275) -/
  | set_2_E
  /-- 0xCB 0xD4 `SET 2,H` (R275) -/
  | set_2_H
  /-- 0xCB 0xD5 `SET 2,L` (R275) -/
  | set_2_L
  /-- 0xCB 0xD6 `SET 2,(HL)` (R275) -/
  | set_2_mHL
  /-- 0xCB 0xD7 `SET 2,A` (R275) -/
  | set_2_A
  /-- 0xCB 0xD8 `SET 3,B` (R275) -/
  | set_3_B
  /-- 0xCB 0xD9 `SET 3,C` (R275) -/
  | set_3_C
  /-- 0xCB 0xDA `SET 3,D` (R275) -/
  | set_3_D
  /-- 0xCB 0xDB `SET 3,E` (R275) -/
  | set_3_E
  /-- 0xCB 0xDC `SET 3,H` (R275) -/
  | set_3_H
  /-- 0xCB 0xDD `SET 3,L` (R275) -/
  | set_3_L
  /-- 0xCB 0xDE `SET 3,(HL)` (R275) -/
  | set_3_mHL
  /-- 0xCB 0xDF `SET 3,A` (R275) -/
  | set_3_A
  /-- 0xCB 0xE0 `SET 4,B` (R275) -/
  | set_4_B
  /-- 0xCB 0xE1 `SET 4,C` (R275) -/
  | set_4_C
  /-- 0xCB 0xE2 `SET 4,D` (R275) -/
  | set_4_D
  /-- 0xCB 0xE3 `SET 4,E` (R275) -/
  | set_4_E
  /-- 0xCB 0xE4 `SET 4,H` (R275) -/
  | set_4_H
  /-- 0xCB 0xE5 `SET 4,L` (R275) -/
  | set_4_L
  /-- 0xCB 0xE6 `SET 4,(HL)` (R275) -/
  | set_4_mHL
  /-- 0xCB 0xE7 `SET 4,A` (R275) -/
  | set_4_A
  /-- 0xCB 0xE8 `SET 5,B` (R275) -/
  | set_5_B
  /-- 0xCB 0xE9 `SET 5,C` (R275) -/
  | set_5_C
  /-- 0xCB 0xEA `SET 5,D` (R275) -/
  | set_5_D
  /-- 0xCB 0xEB `SET 5,E` (R275) -/
  | set_5_E
  /-- 0xCB 0xEC `SET 5,H` (R275) -/
  | set_5_H
  /-- 0xCB 0xED `SET 5,L` (R275) -/
  | set_5_L
  /-- 0xCB 0xEE `SET 5,(HL)` (R275) -/
  | set_5_mHL
  /-- 0xCB 0xEF `SET 5,A` (R275) -/
  | set_5_A
  /-- 0xCB 0xF0 `SET 6,B` (R275) -/
  | set_6_B
  /-- 0xCB 0xF1 `SET 6,C` (R275) -/
  | set_6_C
  /-- 0xCB 0xF2 `SET 6,D` (R275) -/
  | set_6_D
  /-- 0xCB 0xF3 `SET 6,E` (R275) -/
  | set_6_E
  /-- 0xCB 0xF4 `SET 6,H` (R275) -/
  | set_6_H
  /-- 0xCB 0xF5 `SET 6,L` (R275) -/
  | set_6_L
  /-- 0xCB 0xF6 `SET 6,(HL)` (R275) -/
  | set_6_mHL
  /-- 0xCB 0xF7 `SET 6,A` (R275) -/
  | set_6_A
  /-- 0xCB 0xF8 `SET 7,B` (R275) -/
  | set_7_B
  /-- 0xCB 0xF9 `SET 7,C` (R275) -/
  | set_7_C
  /-- 0xCB 0xFA `SET 7,D` (R275) -/
  | set_7_D
  /-- 0xCB 0xFB `SET 7,E` (R275) -/
  | set_7_E
  /-- 0xCB 0xFC `SET 7,H` (R275) -/
  | set_7_H
  /-- 0xCB 0xFD `SET 7,L` (R275) -/
  | set_7_L
  /-- 0xCB 0xFE `SET 7,(HL)` (R275) -/
  | set_7_mHL
  /-- 0xCB 0xFF `SET 7,A` (R275) -/
  | set_7_A
  deriving DecidableEq, Repr

end Sys2Proof
end

