-- ==== Sys2Proof/Machine/State.lean ====
section
/-! DEFINITION. The machine's state as plain data, holding every piece of state spec/10_state.md gives the machine, the
reasons a step can stop, and the state after power-on. INVENTORY.md lists each field with its rule. The dispatch latch
(R33) is derived state and is computed by `State.latch` in Machine/Ops.lean. -/

namespace Sys2Proof.Machine

/-- The three PPU modes (R45). During scanlines 144 to 153 the mode is `hblank` (R352). -/
inductive PpuMode where
  | hblank
  | spriteSearch
  | pixelTransfer
  deriving DecidableEq, Repr

/-- The two places a tile map can stand (R44). -/
inductive TileMap where
  | at9800
  | at9C00
  deriving DecidableEq, Repr

/-- A decoded palette: the shade of each of the four colour indices (R48, R366). -/
structure Palette where
  p0 : Shade
  p1 : Shade
  p2 : Shade
  p3 : Shade
  deriving DecidableEq, Repr

/-- One decoded sprite descriptor (R47, R364). -/
structure Sprite where
  y : Byte
  x : Byte
  tile : Byte
  behind : Bool
  yflip : Bool
  xflip : Bool
  pal : Bool
  deriving DecidableEq, Repr

/-- The run status (R31). `faulted` and `refusedStop` are terminal: no step is enabled in either (R436). -/
inductive Status where
  | running
  | faulted (addr : Word) (opcode : Byte)
  | refusedStop (addr : Word)
  deriving DecidableEq, Repr

/-- The budget ceiling: a natural number, or MAX, "no ceiling" (R7, R41; log 6). -/
inductive Budget where
  | upTo (limit : Nat)
  | max
  deriving DecidableEq, Repr

/-- The whole state of the machine. -/
structure State where
  /-- `A`, the high half of `AF` (R20). -/
  a : Byte
  /-- `F`, the flags register: Z, N, H, C in bits 7 to 4, the low nibble zero (R26). -/
  f : Byte
  b : Byte
  c : Byte
  d : Byte
  e : Byte
  h : Byte
  l : Byte
  /-- The stack pointer (R24). -/
  sp : Word
  /-- The program counter (R25). -/
  pc : Word
  /-- `IME`, the master interrupt enable (R29). -/
  ime : Bool
  /-- The low-power mode (R30). -/
  halted : Bool
  status : Status
  /-- The address space (R100), in the canonical form of Machine/Memory.lean. -/
  mem : List Host.Cell
  /-- The elapsed virtual clock (R40). -/
  elapsed : Nat
  /-- The budget ceiling the host sets (R41). -/
  budget : Budget
  /-- The host's ended flag (R42). -/
  ended : Bool
  /-- The joypad state, active low (R43). -/
  joypad : Byte
  /-- The decoded LCDC flags (R44). -/
  lcdOn : Bool
  bgOn : Bool
  spriteOn : Bool
  winOn : Bool
  tileUnsigned : Bool
  bgMap : TileMap
  winMap : TileMap
  /-- The scanline state machine (R45). -/
  mode : PpuMode
  scanline : Nat
  nextEvent : Nat
  /-- The decoded tile cache, tile by tile, row by row, leftmost pixel first (R46). -/
  tiles : List (List (List Colour))
  /-- The sprite table in OAM order (R47). -/
  sprites : List Sprite
  /-- The three palettes (R48). -/
  palBg : Palette
  palObj0 : Palette
  palObj1 : Palette
  /-- The rendered line buffers, 144 rows of 176 shades (R49). -/
  lines : List (List Shade)
  deriving DecidableEq, Repr

/-- Why a step is not enabled, though nothing is refused. The machine does not move in any of these (R436). -/
inductive Fault where
  /-- Raised by `step` when the status is `faulted`: the machine met an undefined opcode earlier (R400). Safe: the
  spec enables no step there. -/
  | decodeFailure (addr : Word) (opcode : Byte)
  /-- Raised by `step` when the host has set the ended flag (R42, R436). Safe: the spec enables no step there. -/
  | runEnded
  /-- Raised by `step` when `elapsed` has reached the budget (R41, R436); the host can raise the budget and the same
  state then steps. Safe: the spec enables no step there. -/
  | budgetSpent
  deriving DecidableEq, Repr

/-- Why the spec declines to say what a step does. -/
inductive Refusal where
  /-- Raised by an arm of `exec` whose instruction has no meaning in the model yet. Safe: nothing can be proved of it. -/
  | notModelled (mnemonic : String)
  /-- Raised by `step` when the status is `refusedStop`: the machine executed `STOP` earlier (R313). Safe: the spec
  enables no step there. -/
  | stopExecuted (addr : Word)
  deriving DecidableEq, Repr

/-- What an instruction's meaning answers. -/
abbrev Result := Host.Outcome State Fault Refusal

/-- A sprite descriptor with every field zero (R47). -/
def Sprite.zero : Sprite :=
  { y := 0, x := 0, tile := 0, behind := false, yflip := false, xflip := false, pal := false }

/-- The state after power-on (R52, R460 to R465), with no ROM image placed: the bytes of the ROM region read
`INIT_RAM` (log 1, log 2). `State.powerOn` in Machine/PowerOn.lean is the reset sequence with an image. -/
def State.reset : State :=
  { a := 0x01, f := 0xB0, b := 0x00, c := 0x13, d := 0x00, e := 0xD8, h := 0x01, l := 0x4D
    sp := 0xFFFE, pc := 0x0100
    ime := false, halted := false, status := .running
    mem := []
    elapsed := 0, budget := .upTo 0, ended := false
    joypad := Config.joypad0
    lcdOn := true, bgOn := true, spriteOn := false, winOn := false, tileUnsigned := true
    bgMap := .at9800, winMap := .at9800
    mode := .spriteSearch, scanline := 0, nextEvent := 80
    tiles := List.replicate 384 (List.replicate 8 (List.replicate 8 0))
    sprites := List.replicate 40 Sprite.zero
    palBg := { p0 := 0, p1 := 3, p2 := 3, p3 := 3 }
    palObj0 := { p0 := 3, p1 := 3, p2 := 3, p3 := 3 }
    palObj1 := { p0 := 3, p1 := 3, p2 := 3, p3 := 3 }
    lines := List.replicate 144 (List.replicate 176 0) }

end Sys2Proof.Machine
end

