-- ==== Sys2Proof/Machine/Flags.lean ====
section
/-! DEFINITION. The flags register and every flag computation of the instruction set (spec/10_state.md R26, R28;
spec/42_alu8.md R215 to R233; spec/43_alu16.md; spec/44_rotate_shift_bit.md; spec/41_load16.md R204). Each result is
computed on naturals and narrowed at the end; carries are comparisons of the exact result (R233). -/

namespace Sys2Proof.Machine

/-- `F` as one byte: Z, N, H, C in bits 7 to 4, the low nibble zero (R26, R28). -/
def flagByte (z n h c : Bool) : Byte :=
  BitVec.ofBool z ++ BitVec.ofBool n ++ BitVec.ofBool h ++ BitVec.ofBool c ++ 0#4

/-- `Z` (R26). -/
def State.flagZ (s : State) : Bool := s.f.getLsbD 7

/-- `N` (R26). -/
def State.flagN (s : State) : Bool := s.f.getLsbD 6

/-- `Hf` (R26). -/
def State.flagH (s : State) : Bool := s.f.getLsbD 5

/-- `Cf` (R26). -/
def State.flagC (s : State) : Bool := s.f.getLsbD 4

/-- A byte result with the flags byte that goes with it. -/
structure Out8 where
  value : Byte
  flags : Byte
  deriving DecidableEq, Repr

/-- A 16-bit result with the flags byte that goes with it. -/
structure Out16 where
  value : Word
  flags : Byte
  deriving DecidableEq, Repr

/-! ## 8-bit arithmetic and logic -/

/-- `a + x + carry`: `ADD` with no carry in, `ADC` with `Cf` (R217, R218). -/
def addBytes (a x : Byte) (carry : Bool) : Out8 :=
  let sum := a.toNat + x.toNat + carry.toNat
  let v := BitVec.ofNat 8 sum
  { value := v
    flags := flagByte (v == 0) false (decide (a.toNat % 16 + x.toNat % 16 + carry.toNat > 0xF)) (decide (sum > 0xFF)) }

/-- `a - x - borrow`: `SUB` and `CP` with no borrow in, `SBC` with `Cf` (R219, R220, R224). -/
def subBytes (a x : Byte) (borrow : Bool) : Out8 :=
  let v := a - x - BitVec.ofNat 8 borrow.toNat
  { value := v
    flags := flagByte (v == 0) true (decide (a.toNat % 16 < x.toNat % 16 + borrow.toNat))
      (decide (a.toNat < x.toNat + borrow.toNat)) }

/-- A logical result: Z from it, N and C clear, H as given (R221 to R223). -/
def logicOut (v : Byte) (half : Bool) : Out8 := { value := v, flags := flagByte (v == 0) false half false }

/-- The eight accumulator operations; `CP` has the flags of `SUB` and leaves `A` (R217 to R224). -/
def aluOut (op : AluOp) (a x : Byte) (carry : Bool) : Out8 :=
  match op with
  | .add => addBytes a x false
  | .adc => addBytes a x carry
  | .sub => subBytes a x false
  | .sbc => subBytes a x carry
  | .and => logicOut (a &&& x) true
  | .xor => logicOut (a ^^^ x) false
  | .or => logicOut (a ||| x) false
  | .cp => { value := a, flags := (subBytes a x false).flags }

/-- `INC`: H when the low nibble was 0xF, C kept (R225, R226). -/
def incByte (v : Byte) (carry : Bool) : Out8 :=
  { value := v + 1, flags := flagByte (v + 1 == 0) false (decide (v.toNat % 16 = 0xF)) carry }

/-- `DEC`: H when the low nibble was 0, C kept (R227, R228). -/
def decByte (v : Byte) (carry : Bool) : Out8 :=
  { value := v - 1, flags := flagByte (v - 1 == 0) true (decide (v.toNat % 16 = 0)) carry }

/-- `DAA`: the two-branch correction driven by N, H and C; both tests of the add branch use the old `A` (R229). -/
def daaOut (a : Byte) (n h c : Bool) : Out8 :=
  let low := if n then h else h || decide (a.toNat % 16 > 9)
  let high := if n then c else c || decide (a.toNat > 0x99)
  let adj : Byte := (if low then 0x06#8 else 0#8) ||| (if high then 0x60#8 else 0#8)
  let v := if n then a - adj else a + adj
  { value := v, flags := flagByte (v == 0) n false high }

/-! ## Rotates, shifts, swap (R260 to R272) -/

/-- The data and the carry out of a rotate or shift; `SWAP` clears the carry (R265 to R272). -/
def rotData (op : RotOp) (x : Byte) (carry : Bool) : Byte × Bool :=
  match op with
  | .rlc => (x.extractLsb' 0 7 ++ BitVec.ofBool (x.getLsbD 7), x.getLsbD 7)
  | .rrc => (BitVec.ofBool (x.getLsbD 0) ++ x.extractLsb' 1 7, x.getLsbD 0)
  | .rl => (x.extractLsb' 0 7 ++ BitVec.ofBool carry, x.getLsbD 7)
  | .rr => (BitVec.ofBool carry ++ x.extractLsb' 1 7, x.getLsbD 0)
  | .sla => (x.extractLsb' 0 7 ++ 0#1, x.getLsbD 7)
  | .sra => (BitVec.ofBool (x.getLsbD 7) ++ x.extractLsb' 1 7, x.getLsbD 0)
  | .swap => (x.extractLsb' 0 4 ++ x.extractLsb' 4 4, false)
  | .srl => (0#1 ++ x.extractLsb' 1 7, x.getLsbD 0)

/-- An extended rotate or shift: Z from the result, N and H clear (R265 to R272). -/
def rotOut (op : RotOp) (x : Byte) (carry : Bool) : Out8 :=
  let r := rotData op x carry
  { value := r.1, flags := flagByte (r.1 == 0) false false r.2 }

/-- A one-byte accumulator rotate: the same data, Z forced to 0 (R260 to R264). -/
def rotAccOut (op : RotOp) (x : Byte) (carry : Bool) : Out8 :=
  let r := rotData op x carry
  { value := r.1, flags := flagByte false false false r.2 }

/-! ## Bits (R273 to R275) -/

/-- The flags of `BIT b,x`: Z is the complement of the bit, H set, C kept (R273). -/
def bitFlags (b : Fin 8) (x : Byte) (carry : Bool) : Byte := flagByte (!x.getLsbD b.val) false true carry

/-- `RES b,x` (R274). -/
def resetBit (b : Fin 8) (x : Byte) : Byte := x &&& ~~~(1#8 <<< b.val)

/-- `SET b,x` (R275). -/
def setBit (b : Fin 8) (x : Byte) : Byte := x ||| (1#8 <<< b.val)

/-! ## 16-bit arithmetic -/

/-- `ADD HL,rr`: H and C from bits 11 and 15, Z kept, N clear (R251). -/
def addWords (hl rr : Word) (z : Bool) : Out16 :=
  let sum := hl.toNat + rr.toNat
  { value := BitVec.ofNat 16 sum
    flags := flagByte z false (decide (hl.toNat % 4096 + rr.toNat % 4096 > 0xFFF)) (decide (sum > 0xFFFF)) }

/-- `SP + e`: the sum takes `e` as signed, H and C come from the unsigned low-byte addition, Z and N clear (R204,
R254). -/
def addSpOffset (sp : Word) (e : Byte) : Out16 :=
  { value := sp + sext16 e
    flags := flagByte false false (decide (sp.toNat % 16 + e.toNat % 16 > 0xF))
      (decide (sp.toNat % 256 + e.toNat > 0xFF)) }

end Sys2Proof.Machine
end

