-- ==== Sys2Proof/WellFormed.lean ====
section
/-! DEFINITION. What a well-formed instruction and a well-formed ROM image are. Every operand of `Instr` is a bit
vector of exactly the width its encoding gives it (R147), so no operand can be out of range; the check on an
instruction is that it is one of the 500 the instruction set defines. -/

namespace Sys2Proof

/-- The rows of the 11 undefined opcodes, which are no instructions (R160, R314). -/
def Instr.isUndefined (i : Instr) : Bool :=
  match i with
  | .undefined_D3 | .undefined_DB | .undefined_DD | .undefined_E3 | .undefined_E4 | .undefined_EB | .undefined_EC
  | .undefined_ED | .undefined_F4 | .undefined_FC | .undefined_FD => true
  | _ => false

/-- A well-formed instruction: one that the instruction set defines (R2, R160; R473, item 10). -/
def Instr.wellFormed (i : Instr) : Bool := !i.isUndefined

/-- The load check of a ROM image: 1 to 0x8000 bytes (R462). -/
def romWellFormed (rom : List Byte) : Bool := decide (1 ≤ rom.length) && decide (rom.length ≤ 0x8000)

end Sys2Proof
end

