-- ==== Sys2Proof/Decode.lean ====
section
/-! DEFINITION. The decoder, total on any bytes, and after it the encoder. The decoder follows the fields of the opcode
byte and the opcode map in prose (spec/30_encoding.md R140 to R157, R160); the encoder follows the rows of
spec/opcode_table.json. The two come from different texts of the spec, so that each checks the other. -/

namespace Sys2Proof

/-! ## Index sets (R148 to R152) -/

/-- `r8[i]` (R148). -/
def Loc8.ofIndex (i : Nat) : Loc8 :=
  match i with
  | 0 => .reg .b | 1 => .reg .c | 2 => .reg .d | 3 => .reg .e | 4 => .reg .h | 5 => .reg .l | 6 => .memHL | _ => .reg .a

/-- `r16[p]` (R149). -/
def R16.ofIndex (p : Nat) : R16 :=
  match p with
  | 0 => .bc | 1 => .de | 2 => .hl | _ => .sp

/-- `r16stk[p]` (R150). -/
def R16Stk.ofIndex (p : Nat) : R16Stk :=
  match p with
  | 0 => .bc | 1 => .de | 2 => .hl | _ => .af

/-- `cc` (R151). -/
def Cond.ofIndex (i : Nat) : Cond :=
  match i with
  | 0 => .nz | 1 => .z | 2 => .nc | _ => .c

/-- `alu[y]` (R152). -/
def AluOp.ofIndex (y : Nat) : AluOp :=
  match y with
  | 0 => .add | 1 => .adc | 2 => .sub | 3 => .sbc | 4 => .and | 5 => .xor | 6 => .or | _ => .cp

/-- `rot[y]` (R152). -/
def RotOp.ofIndex (y : Nat) : RotOp :=
  match y with
  | 0 => .rlc | 1 => .rrc | 2 => .rl | 3 => .rr | 4 => .sla | 5 => .sra | 6 => .swap | _ => .srl

/-! ## The rows of one shape, named by their operands

`Instr.ofLd d r` is the row `LD d,r`, and so on: the constructors of `Instr` grouped by the operand they spell out. -/

/-- `LD r8[y],r8[z]`, with `HALT` in the place of `LD (HL),(HL)` (R154). -/
def Instr.ofLd (d r : Loc8) : Instr :=
  match d with
  | .reg .b =>
    match r with
    | .reg .b => .ld_B_B
    | .reg .c => .ld_B_C
    | .reg .d => .ld_B_D
    | .reg .e => .ld_B_E
    | .reg .h => .ld_B_H
    | .reg .l => .ld_B_L
    | .memHL => .ld_B_mHL
    | .reg .a => .ld_B_A
  | .reg .c =>
    match r with
    | .reg .b => .ld_C_B
    | .reg .c => .ld_C_C
    | .reg .d => .ld_C_D
    | .reg .e => .ld_C_E
    | .reg .h => .ld_C_H
    | .reg .l => .ld_C_L
    | .memHL => .ld_C_mHL
    | .reg .a => .ld_C_A
  | .reg .d =>
    match r with
    | .reg .b => .ld_D_B
    | .reg .c => .ld_D_C
    | .reg .d => .ld_D_D
    | .reg .e => .ld_D_E
    | .reg .h => .ld_D_H
    | .reg .l => .ld_D_L
    | .memHL => .ld_D_mHL
    | .reg .a => .ld_D_A
  | .reg .e =>
    match r with
    | .reg .b => .ld_E_B
    | .reg .c => .ld_E_C
    | .reg .d => .ld_E_D
    | .reg .e => .ld_E_E
    | .reg .h => .ld_E_H
    | .reg .l => .ld_E_L
    | .memHL => .ld_E_mHL
    | .reg .a => .ld_E_A
  | .reg .h =>
    match r with
    | .reg .b => .ld_H_B
    | .reg .c => .ld_H_C
    | .reg .d => .ld_H_D
    | .reg .e => .ld_H_E
    | .reg .h => .ld_H_H
    | .reg .l => .ld_H_L
    | .memHL => .ld_H_mHL
    | .reg .a => .ld_H_A
  | .reg .l =>
    match r with
    | .reg .b => .ld_L_B
    | .reg .c => .ld_L_C
    | .reg .d => .ld_L_D
    | .reg .e => .ld_L_E
    | .reg .h => .ld_L_H
    | .reg .l => .ld_L_L
    | .memHL => .ld_L_mHL
    | .reg .a => .ld_L_A
  | .memHL =>
    match r with
    | .reg .b => .ld_mHL_B
    | .reg .c => .ld_mHL_C
    | .reg .d => .ld_mHL_D
    | .reg .e => .ld_mHL_E
    | .reg .h => .ld_mHL_H
    | .reg .l => .ld_mHL_L
    | .memHL => .halt
    | .reg .a => .ld_mHL_A
  | .reg .a =>
    match r with
    | .reg .b => .ld_A_B
    | .reg .c => .ld_A_C
    | .reg .d => .ld_A_D
    | .reg .e => .ld_A_E
    | .reg .h => .ld_A_H
    | .reg .l => .ld_A_L
    | .memHL => .ld_A_mHL
    | .reg .a => .ld_A_A

/-- `alu[y] A,r8[z]` (R155). -/
def Instr.ofAlu (op : AluOp) (x : Loc8) : Instr :=
  match op with
  | .add =>
    match x with
    | .reg .b => .add_A_B
    | .reg .c => .add_A_C
    | .reg .d => .add_A_D
    | .reg .e => .add_A_E
    | .reg .h => .add_A_H
    | .reg .l => .add_A_L
    | .memHL => .add_A_mHL
    | .reg .a => .add_A_A
  | .adc =>
    match x with
    | .reg .b => .adc_A_B
    | .reg .c => .adc_A_C
    | .reg .d => .adc_A_D
    | .reg .e => .adc_A_E
    | .reg .h => .adc_A_H
    | .reg .l => .adc_A_L
    | .memHL => .adc_A_mHL
    | .reg .a => .adc_A_A
  | .sub =>
    match x with
    | .reg .b => .sub_A_B
    | .reg .c => .sub_A_C
    | .reg .d => .sub_A_D
    | .reg .e => .sub_A_E
    | .reg .h => .sub_A_H
    | .reg .l => .sub_A_L
    | .memHL => .sub_A_mHL
    | .reg .a => .sub_A_A
  | .sbc =>
    match x with
    | .reg .b => .sbc_A_B
    | .reg .c => .sbc_A_C
    | .reg .d => .sbc_A_D
    | .reg .e => .sbc_A_E
    | .reg .h => .sbc_A_H
    | .reg .l => .sbc_A_L
    | .memHL => .sbc_A_mHL
    | .reg .a => .sbc_A_A
  | .and =>
    match x with
    | .reg .b => .and_A_B
    | .reg .c => .and_A_C
    | .reg .d => .and_A_D
    | .reg .e => .and_A_E
    | .reg .h => .and_A_H
    | .reg .l => .and_A_L
    | .memHL => .and_A_mHL
    | .reg .a => .and_A_A
  | .xor =>
    match x with
    | .reg .b => .xor_A_B
    | .reg .c => .xor_A_C
    | .reg .d => .xor_A_D
    | .reg .e => .xor_A_E
    | .reg .h => .xor_A_H
    | .reg .l => .xor_A_L
    | .memHL => .xor_A_mHL
    | .reg .a => .xor_A_A
  | .or =>
    match x with
    | .reg .b => .or_A_B
    | .reg .c => .or_A_C
    | .reg .d => .or_A_D
    | .reg .e => .or_A_E
    | .reg .h => .or_A_H
    | .reg .l => .or_A_L
    | .memHL => .or_A_mHL
    | .reg .a => .or_A_A
  | .cp =>
    match x with
    | .reg .b => .cp_A_B
    | .reg .c => .cp_A_C
    | .reg .d => .cp_A_D
    | .reg .e => .cp_A_E
    | .reg .h => .cp_A_H
    | .reg .l => .cp_A_L
    | .memHL => .cp_A_mHL
    | .reg .a => .cp_A_A

/-- `alu[y] A,n` (R156). -/
def Instr.ofAluImm (op : AluOp) (n : Byte) : Instr :=
  match op with
  | .add => .add_A_n n
  | .adc => .adc_A_n n
  | .sub => .sub_A_n n
  | .sbc => .sbc_A_n n
  | .and => .and_A_n n
  | .xor => .xor_A_n n
  | .or => .or_A_n n
  | .cp => .cp_A_n n

/-- `LD r8[y],n` (R153). -/
def Instr.ofLdImm (d : Loc8) (n : Byte) : Instr :=
  match d with
  | .reg .b => .ld_B_n n
  | .reg .c => .ld_C_n n
  | .reg .d => .ld_D_n n
  | .reg .e => .ld_E_n n
  | .reg .h => .ld_H_n n
  | .reg .l => .ld_L_n n
  | .memHL => .ld_mHL_n n
  | .reg .a => .ld_A_n n

/-- `INC r8[y]` (R153). -/
def Instr.ofInc (x : Loc8) : Instr :=
  match x with
  | .reg .b => .inc_B
  | .reg .c => .inc_C
  | .reg .d => .inc_D
  | .reg .e => .inc_E
  | .reg .h => .inc_H
  | .reg .l => .inc_L
  | .memHL => .inc_mHL
  | .reg .a => .inc_A

/-- `DEC r8[y]` (R153). -/
def Instr.ofDec (x : Loc8) : Instr :=
  match x with
  | .reg .b => .dec_B
  | .reg .c => .dec_C
  | .reg .d => .dec_D
  | .reg .e => .dec_E
  | .reg .h => .dec_H
  | .reg .l => .dec_L
  | .memHL => .dec_mHL
  | .reg .a => .dec_A

/-- `LD r16[p],nn` (R153). -/
def Instr.ofLd16 (rr : R16) (nn : Word) : Instr :=
  match rr with
  | .bc => .ld_BC_nn nn
  | .de => .ld_DE_nn nn
  | .hl => .ld_HL_nn nn
  | .sp => .ld_SP_nn nn

/-- `ADD HL,r16[p]` (R153). -/
def Instr.ofAddHL (rr : R16) : Instr :=
  match rr with
  | .bc => .add_HL_BC
  | .de => .add_HL_DE
  | .hl => .add_HL_HL
  | .sp => .add_HL_SP

/-- `INC r16[p]` (R153). -/
def Instr.ofInc16 (rr : R16) : Instr :=
  match rr with
  | .bc => .inc_BC
  | .de => .inc_DE
  | .hl => .inc_HL
  | .sp => .inc_SP

/-- `DEC r16[p]` (R153). -/
def Instr.ofDec16 (rr : R16) : Instr :=
  match rr with
  | .bc => .dec_BC
  | .de => .dec_DE
  | .hl => .dec_HL
  | .sp => .dec_SP

/-- `PUSH r16stk[p]` (R156). -/
def Instr.ofPush (rr : R16Stk) : Instr :=
  match rr with
  | .bc => .push_BC
  | .de => .push_DE
  | .hl => .push_HL
  | .af => .push_AF

/-- `POP r16stk[p]` (R156). -/
def Instr.ofPop (rr : R16Stk) : Instr :=
  match rr with
  | .bc => .pop_BC
  | .de => .pop_DE
  | .hl => .pop_HL
  | .af => .pop_AF

/-- `JR cc,e` (R153). -/
def Instr.ofJrCond (cc : Cond) (e : Byte) : Instr :=
  match cc with
  | .nz => .jr_NZ_e e
  | .z => .jr_Z_e e
  | .nc => .jr_NC_e e
  | .c => .jr_C_e e

/-- `JP cc,nn` (R156). -/
def Instr.ofJpCond (cc : Cond) (nn : Word) : Instr :=
  match cc with
  | .nz => .jp_NZ_nn nn
  | .z => .jp_Z_nn nn
  | .nc => .jp_NC_nn nn
  | .c => .jp_C_nn nn

/-- `CALL cc,nn` (R156). -/
def Instr.ofCallCond (cc : Cond) (nn : Word) : Instr :=
  match cc with
  | .nz => .call_NZ_nn nn
  | .z => .call_Z_nn nn
  | .nc => .call_NC_nn nn
  | .c => .call_C_nn nn

/-- `RET cc` (R156). -/
def Instr.ofRetCond (cc : Cond) : Instr :=
  match cc with
  | .nz => .ret_NZ
  | .z => .ret_Z
  | .nc => .ret_NC
  | .c => .ret_C

/-- `RST y*8` (R156). -/
def Instr.ofRst (y : Fin 8) : Instr :=
  match y with
  | 0 => .rst_00
  | 1 => .rst_08
  | 2 => .rst_10
  | 3 => .rst_18
  | 4 => .rst_20
  | 5 => .rst_28
  | 6 => .rst_30
  | 7 => .rst_38

/-- `rot[y] r8[z]` of the extended set (R157). -/
def Instr.ofRot (op : RotOp) (x : Loc8) : Instr :=
  match op with
  | .rlc =>
    match x with
    | .reg .b => .rlc_B
    | .reg .c => .rlc_C
    | .reg .d => .rlc_D
    | .reg .e => .rlc_E
    | .reg .h => .rlc_H
    | .reg .l => .rlc_L
    | .memHL => .rlc_mHL
    | .reg .a => .rlc_A
  | .rrc =>
    match x with
    | .reg .b => .rrc_B
    | .reg .c => .rrc_C
    | .reg .d => .rrc_D
    | .reg .e => .rrc_E
    | .reg .h => .rrc_H
    | .reg .l => .rrc_L
    | .memHL => .rrc_mHL
    | .reg .a => .rrc_A
  | .rl =>
    match x with
    | .reg .b => .rl_B
    | .reg .c => .rl_C
    | .reg .d => .rl_D
    | .reg .e => .rl_E
    | .reg .h => .rl_H
    | .reg .l => .rl_L
    | .memHL => .rl_mHL
    | .reg .a => .rl_A
  | .rr =>
    match x with
    | .reg .b => .rr_B
    | .reg .c => .rr_C
    | .reg .d => .rr_D
    | .reg .e => .rr_E
    | .reg .h => .rr_H
    | .reg .l => .rr_L
    | .memHL => .rr_mHL
    | .reg .a => .rr_A
  | .sla =>
    match x with
    | .reg .b => .sla_B
    | .reg .c => .sla_C
    | .reg .d => .sla_D
    | .reg .e => .sla_E
    | .reg .h => .sla_H
    | .reg .l => .sla_L
    | .memHL => .sla_mHL
    | .reg .a => .sla_A
  | .sra =>
    match x with
    | .reg .b => .sra_B
    | .reg .c => .sra_C
    | .reg .d => .sra_D
    | .reg .e => .sra_E
    | .reg .h => .sra_H
    | .reg .l => .sra_L
    | .memHL => .sra_mHL
    | .reg .a => .sra_A
  | .swap =>
    match x with
    | .reg .b => .swap_B
    | .reg .c => .swap_C
    | .reg .d => .swap_D
    | .reg .e => .swap_E
    | .reg .h => .swap_H
    | .reg .l => .swap_L
    | .memHL => .swap_mHL
    | .reg .a => .swap_A
  | .srl =>
    match x with
    | .reg .b => .srl_B
    | .reg .c => .srl_C
    | .reg .d => .srl_D
    | .reg .e => .srl_E
    | .reg .h => .srl_H
    | .reg .l => .srl_L
    | .memHL => .srl_mHL
    | .reg .a => .srl_A

/-- `BIT y,r8[z]` (R157). -/
def Instr.ofBit (b : Fin 8) (x : Loc8) : Instr :=
  match b with
  | 0 =>
    match x with
    | .reg .b => .bit_0_B
    | .reg .c => .bit_0_C
    | .reg .d => .bit_0_D
    | .reg .e => .bit_0_E
    | .reg .h => .bit_0_H
    | .reg .l => .bit_0_L
    | .memHL => .bit_0_mHL
    | .reg .a => .bit_0_A
  | 1 =>
    match x with
    | .reg .b => .bit_1_B
    | .reg .c => .bit_1_C
    | .reg .d => .bit_1_D
    | .reg .e => .bit_1_E
    | .reg .h => .bit_1_H
    | .reg .l => .bit_1_L
    | .memHL => .bit_1_mHL
    | .reg .a => .bit_1_A
  | 2 =>
    match x with
    | .reg .b => .bit_2_B
    | .reg .c => .bit_2_C
    | .reg .d => .bit_2_D
    | .reg .e => .bit_2_E
    | .reg .h => .bit_2_H
    | .reg .l => .bit_2_L
    | .memHL => .bit_2_mHL
    | .reg .a => .bit_2_A
  | 3 =>
    match x with
    | .reg .b => .bit_3_B
    | .reg .c => .bit_3_C
    | .reg .d => .bit_3_D
    | .reg .e => .bit_3_E
    | .reg .h => .bit_3_H
    | .reg .l => .bit_3_L
    | .memHL => .bit_3_mHL
    | .reg .a => .bit_3_A
  | 4 =>
    match x with
    | .reg .b => .bit_4_B
    | .reg .c => .bit_4_C
    | .reg .d => .bit_4_D
    | .reg .e => .bit_4_E
    | .reg .h => .bit_4_H
    | .reg .l => .bit_4_L
    | .memHL => .bit_4_mHL
    | .reg .a => .bit_4_A
  | 5 =>
    match x with
    | .reg .b => .bit_5_B
    | .reg .c => .bit_5_C
    | .reg .d => .bit_5_D
    | .reg .e => .bit_5_E
    | .reg .h => .bit_5_H
    | .reg .l => .bit_5_L
    | .memHL => .bit_5_mHL
    | .reg .a => .bit_5_A
  | 6 =>
    match x with
    | .reg .b => .bit_6_B
    | .reg .c => .bit_6_C
    | .reg .d => .bit_6_D
    | .reg .e => .bit_6_E
    | .reg .h => .bit_6_H
    | .reg .l => .bit_6_L
    | .memHL => .bit_6_mHL
    | .reg .a => .bit_6_A
  | 7 =>
    match x with
    | .reg .b => .bit_7_B
    | .reg .c => .bit_7_C
    | .reg .d => .bit_7_D
    | .reg .e => .bit_7_E
    | .reg .h => .bit_7_H
    | .reg .l => .bit_7_L
    | .memHL => .bit_7_mHL
    | .reg .a => .bit_7_A

/-- `RES y,r8[z]` (R157). -/
def Instr.ofRes (b : Fin 8) (x : Loc8) : Instr :=
  match b with
  | 0 =>
    match x with
    | .reg .b => .res_0_B
    | .reg .c => .res_0_C
    | .reg .d => .res_0_D
    | .reg .e => .res_0_E
    | .reg .h => .res_0_H
    | .reg .l => .res_0_L
    | .memHL => .res_0_mHL
    | .reg .a => .res_0_A
  | 1 =>
    match x with
    | .reg .b => .res_1_B
    | .reg .c => .res_1_C
    | .reg .d => .res_1_D
    | .reg .e => .res_1_E
    | .reg .h => .res_1_H
    | .reg .l => .res_1_L
    | .memHL => .res_1_mHL
    | .reg .a => .res_1_A
  | 2 =>
    match x with
    | .reg .b => .res_2_B
    | .reg .c => .res_2_C
    | .reg .d => .res_2_D
    | .reg .e => .res_2_E
    | .reg .h => .res_2_H
    | .reg .l => .res_2_L
    | .memHL => .res_2_mHL
    | .reg .a => .res_2_A
  | 3 =>
    match x with
    | .reg .b => .res_3_B
    | .reg .c => .res_3_C
    | .reg .d => .res_3_D
    | .reg .e => .res_3_E
    | .reg .h => .res_3_H
    | .reg .l => .res_3_L
    | .memHL => .res_3_mHL
    | .reg .a => .res_3_A
  | 4 =>
    match x with
    | .reg .b => .res_4_B
    | .reg .c => .res_4_C
    | .reg .d => .res_4_D
    | .reg .e => .res_4_E
    | .reg .h => .res_4_H
    | .reg .l => .res_4_L
    | .memHL => .res_4_mHL
    | .reg .a => .res_4_A
  | 5 =>
    match x with
    | .reg .b => .res_5_B
    | .reg .c => .res_5_C
    | .reg .d => .res_5_D
    | .reg .e => .res_5_E
    | .reg .h => .res_5_H
    | .reg .l => .res_5_L
    | .memHL => .res_5_mHL
    | .reg .a => .res_5_A
  | 6 =>
    match x with
    | .reg .b => .res_6_B
    | .reg .c => .res_6_C
    | .reg .d => .res_6_D
    | .reg .e => .res_6_E
    | .reg .h => .res_6_H
    | .reg .l => .res_6_L
    | .memHL => .res_6_mHL
    | .reg .a => .res_6_A
  | 7 =>
    match x with
    | .reg .b => .res_7_B
    | .reg .c => .res_7_C
    | .reg .d => .res_7_D
    | .reg .e => .res_7_E
    | .reg .h => .res_7_H
    | .reg .l => .res_7_L
    | .memHL => .res_7_mHL
    | .reg .a => .res_7_A

/-- `SET y,r8[z]` (R157). -/
def Instr.ofSet (b : Fin 8) (x : Loc8) : Instr :=
  match b with
  | 0 =>
    match x with
    | .reg .b => .set_0_B
    | .reg .c => .set_0_C
    | .reg .d => .set_0_D
    | .reg .e => .set_0_E
    | .reg .h => .set_0_H
    | .reg .l => .set_0_L
    | .memHL => .set_0_mHL
    | .reg .a => .set_0_A
  | 1 =>
    match x with
    | .reg .b => .set_1_B
    | .reg .c => .set_1_C
    | .reg .d => .set_1_D
    | .reg .e => .set_1_E
    | .reg .h => .set_1_H
    | .reg .l => .set_1_L
    | .memHL => .set_1_mHL
    | .reg .a => .set_1_A
  | 2 =>
    match x with
    | .reg .b => .set_2_B
    | .reg .c => .set_2_C
    | .reg .d => .set_2_D
    | .reg .e => .set_2_E
    | .reg .h => .set_2_H
    | .reg .l => .set_2_L
    | .memHL => .set_2_mHL
    | .reg .a => .set_2_A
  | 3 =>
    match x with
    | .reg .b => .set_3_B
    | .reg .c => .set_3_C
    | .reg .d => .set_3_D
    | .reg .e => .set_3_E
    | .reg .h => .set_3_H
    | .reg .l => .set_3_L
    | .memHL => .set_3_mHL
    | .reg .a => .set_3_A
  | 4 =>
    match x with
    | .reg .b => .set_4_B
    | .reg .c => .set_4_C
    | .reg .d => .set_4_D
    | .reg .e => .set_4_E
    | .reg .h => .set_4_H
    | .reg .l => .set_4_L
    | .memHL => .set_4_mHL
    | .reg .a => .set_4_A
  | 5 =>
    match x with
    | .reg .b => .set_5_B
    | .reg .c => .set_5_C
    | .reg .d => .set_5_D
    | .reg .e => .set_5_E
    | .reg .h => .set_5_H
    | .reg .l => .set_5_L
    | .memHL => .set_5_mHL
    | .reg .a => .set_5_A
  | 6 =>
    match x with
    | .reg .b => .set_6_B
    | .reg .c => .set_6_C
    | .reg .d => .set_6_D
    | .reg .e => .set_6_E
    | .reg .h => .set_6_H
    | .reg .l => .set_6_L
    | .memHL => .set_6_mHL
    | .reg .a => .set_6_A
  | 7 =>
    match x with
    | .reg .b => .set_7_B
    | .reg .c => .set_7_C
    | .reg .d => .set_7_D
    | .reg .e => .set_7_E
    | .reg .h => .set_7_H
    | .reg .l => .set_7_L
    | .memHL => .set_7_mHL
    | .reg .a => .set_7_A

/-! ## Lengths and fields (R142 to R147) -/

/-- The first bytes of three-byte instructions (R146). -/
def length3Opcodes : List Byte :=
  [0x01, 0x11, 0x21, 0x31, 0x08, 0xC2, 0xCA, 0xD2, 0xDA, 0xC3, 0xC4, 0xCC, 0xD4, 0xDC, 0xCD, 0xEA, 0xFA]

/-- The first bytes of two-byte instructions, the prefix 0xCB among them (R146). -/
def length2Opcodes : List Byte :=
  [0x06, 0x0E, 0x16, 0x1E, 0x26, 0x2E, 0x36, 0x3E, 0x10, 0x18, 0x20, 0x28, 0x30, 0x38] ++
  [0xC6, 0xCE, 0xD6, 0xDE, 0xE6, 0xEE, 0xF6, 0xFE, 0xE0, 0xF0, 0xE8, 0xF8, 0xCB]

/-- `LEN[op]`: the first byte alone determines the length (R142, R146). -/
def lengthOf (op : Byte) : Nat :=
  if length3Opcodes.contains op then 3 else if length2Opcodes.contains op then 2 else 1

/-- Opcodes with `x = 0` (R153). -/
def decodeX0 (y z : Nat) (o8 : Byte) (o16 : Word) : Instr :=
  match z with
  | 0 =>
    match y with
    | 0 => .nop
    | 1 => .ld_mnn_SP o16
    | 2 => .stop o8
    | 3 => .jr_e o8
    | cc => .ofJrCond (.ofIndex (cc - 4)) o8
  | 1 => if y % 2 = 0 then .ofLd16 (.ofIndex (y / 2)) o16 else .ofAddHL (.ofIndex (y / 2))
  | 2 =>
    match y with
    | 0 => .ld_mBC_A
    | 1 => .ld_A_mBC
    | 2 => .ld_mDE_A
    | 3 => .ld_A_mDE
    | 4 => .ld_mHLI_A
    | 5 => .ld_A_mHLI
    | 6 => .ld_mHLD_A
    | _ => .ld_A_mHLD
  | 3 => if y % 2 = 0 then .ofInc16 (.ofIndex (y / 2)) else .ofDec16 (.ofIndex (y / 2))
  | 4 => .ofInc (.ofIndex y)
  | 5 => .ofDec (.ofIndex y)
  | 6 => .ofLdImm (.ofIndex y) o8
  | _ =>
    match y with
    | 0 => .rlca
    | 1 => .rrca
    | 2 => .rla
    | 3 => .rra
    | 4 => .daa
    | 5 => .cpl
    | 6 => .scf
    | _ => .ccf

/-- Extended opcodes: the byte after the prefix 0xCB (R157). -/
def decodeExtended (x : Byte) : Instr :=
  let b := x.toNat / 8 % 8
  let r := Loc8.ofIndex (x.toNat % 8)
  match x.toNat / 64 with
  | 0 => .ofRot (.ofIndex b) r
  | 1 => .ofBit (Fin.ofNat 8 b) r
  | 2 => .ofRes (Fin.ofNat 8 b) r
  | _ => .ofSet (Fin.ofNat 8 b) r

/-- Opcodes with `x = 3` (R156), the prefix (R157) and the undefined ones (R160) among them. -/
def decodeX3 (y z : Nat) (o8 : Byte) (o16 : Word) : Instr :=
  match z with
  | 0 =>
    match y with
    | 4 => .ldh_mn_A o8
    | 5 => .add_SP_e o8
    | 6 => .ldh_A_mn o8
    | 7 => .ld_HL_SPe o8
    | cc => .ofRetCond (.ofIndex cc)
  | 1 =>
    match y with
    | 1 => .ret
    | 3 => .reti
    | 5 => .jp_HL
    | 7 => .ld_SP_HL
    | p => .ofPop (.ofIndex (p / 2))
  | 2 =>
    match y with
    | 4 => .ld_mC_A
    | 5 => .ld_mnn_A o16
    | 6 => .ld_A_mC
    | 7 => .ld_A_mnn o16
    | cc => .ofJpCond (.ofIndex cc) o16
  | 3 =>
    match y with
    | 0 => .jp_nn o16
    | 1 => decodeExtended o8
    | 2 => .undefined_D3
    | 3 => .undefined_DB
    | 4 => .undefined_E3
    | 5 => .undefined_EB
    | 6 => .di
    | _ => .ei
  | 4 =>
    match y with
    | 4 => .undefined_E4
    | 5 => .undefined_EC
    | 6 => .undefined_F4
    | 7 => .undefined_FC
    | cc => .ofCallCond (.ofIndex cc) o16
  | 5 =>
    match y with
    | 1 => .call_nn o16
    | 3 => .undefined_DD
    | 5 => .undefined_ED
    | 7 => .undefined_FD
    | p => .ofPush (.ofIndex (p / 2))
  | 6 => .ofAluImm (.ofIndex y) o8
  | _ => .ofRst (Fin.ofNat 8 y)

/-- The instruction of an opcode byte and its operand bytes (R140, R144, R153 to R157). -/
def decodeParts (op o8 : Byte) (o16 : Word) : Instr :=
  let y := op.toNat / 8 % 8
  let z := op.toNat % 8
  match op.toNat / 64 with
  | 0 => decodeX0 y z o8 o16
  | 1 => .ofLd (.ofIndex y) (.ofIndex z)
  | 2 => .ofAlu (.ofIndex y) (.ofIndex z)
  | _ => decodeX3 y z o8 o16

/-- Why a list of bytes is not (yet) an instruction. The fetch never meets either: the address space is total (R141). -/
inductive DecodeError where
  | noBytes
  | missingOperand (opcode : Byte)
  deriving DecidableEq, Repr

/-- Reads one instruction from the front of a list of bytes and answers the rest (R140, R142). -/
def decode (bytes : List Byte) : Except DecodeError (Instr × List Byte) :=
  match bytes with
  | [] => .error .noBytes
  | op :: rest =>
    match lengthOf op, rest with
    | 1, rest => .ok (decodeParts op 0 0, rest)
    | 2, b1 :: rest => .ok (decodeParts op b1 0, rest)
    | 3, b1 :: b2 :: rest => .ok (decodeParts op b1 (Machine.mk16 b2 b1), rest)
    | _, _ => .error (.missingOperand op)

/-- The bytes of an instruction whose bits the opcode table numbers as `w`, the bytes above `nbits` zero, up to the
longest instruction. A row of 16 bits is a `CB_OP` row, which the table numbers with byte 0 in bits 15:8 (R161);
in every other row bit 0 is the least significant bit of byte 0 (log 13). -/
def tableBytes (nbits w : Nat) : List Byte :=
  let w := w % 2 ^ nbits
  if nbits = 16 ∧ w / 256 = 0xCB then [0xCB, BitVec.ofNat 8 w, 0]
  else [BitVec.ofNat 8 w, BitVec.ofNat 8 (w / 256), BitVec.ofNat 8 (w / 65536)]

/-- What the decoder reads from a word of the opcode table. -/
def decodeTableWord (nbits w : Nat) : Option Instr :=
  match decode (tableBytes nbits w) with
  | .ok (i, _) => some i
  | .error _ => none

/-! ## The encoder -/

/-- The bytes of an instruction in ascending address order: the `encoding` column of spec/opcode_table.json (R143, R161). -/
def encode (i : Instr) : List Byte :=
  match i with
  | .ld_mBC_A => [0x02]
  | .ld_B_n n => [0x06, n]
  | .ld_A_mBC => [0x0A]
  | .ld_C_n n => [0x0E, n]
  | .ld_mDE_A => [0x12]
  | .ld_D_n n => [0x16, n]
  | .ld_A_mDE => [0x1A]
  | .ld_E_n n => [0x1E, n]
  | .ld_mHLI_A => [0x22]
  | .ld_H_n n => [0x26, n]
  | .ld_A_mHLI => [0x2A]
  | .ld_L_n n => [0x2E, n]
  | .ld_mHLD_A => [0x32]
  | .ld_mHL_n n => [0x36, n]
  | .ld_A_mHLD => [0x3A]
  | .ld_A_n n => [0x3E, n]
  | .ld_B_B => [0x40]
  | .ld_B_C => [0x41]
  | .ld_B_D => [0x42]
  | .ld_B_E => [0x43]
  | .ld_B_H => [0x44]
  | .ld_B_L => [0x45]
  | .ld_B_mHL => [0x46]
  | .ld_B_A => [0x47]
  | .ld_C_B => [0x48]
  | .ld_C_C => [0x49]
  | .ld_C_D => [0x4A]
  | .ld_C_E => [0x4B]
  | .ld_C_H => [0x4C]
  | .ld_C_L => [0x4D]
  | .ld_C_mHL => [0x4E]
  | .ld_C_A => [0x4F]
  | .ld_D_B => [0x50]
  | .ld_D_C => [0x51]
  | .ld_D_D => [0x52]
  | .ld_D_E => [0x53]
  | .ld_D_H => [0x54]
  | .ld_D_L => [0x55]
  | .ld_D_mHL => [0x56]
  | .ld_D_A => [0x57]
  | .ld_E_B => [0x58]
  | .ld_E_C => [0x59]
  | .ld_E_D => [0x5A]
  | .ld_E_E => [0x5B]
  | .ld_E_H => [0x5C]
  | .ld_E_L => [0x5D]
  | .ld_E_mHL => [0x5E]
  | .ld_E_A => [0x5F]
  | .ld_H_B => [0x60]
  | .ld_H_C => [0x61]
  | .ld_H_D => [0x62]
  | .ld_H_E => [0x63]
  | .ld_H_H => [0x64]
  | .ld_H_L => [0x65]
  | .ld_H_mHL => [0x66]
  | .ld_H_A => [0x67]
  | .ld_L_B => [0x68]
  | .ld_L_C => [0x69]
  | .ld_L_D => [0x6A]
  | .ld_L_E => [0x6B]
  | .ld_L_H => [0x6C]
  | .ld_L_L => [0x6D]
  | .ld_L_mHL => [0x6E]
  | .ld_L_A => [0x6F]
  | .ld_mHL_B => [0x70]
  | .ld_mHL_C => [0x71]
  | .ld_mHL_D => [0x72]
  | .ld_mHL_E => [0x73]
  | .ld_mHL_H => [0x74]
  | .ld_mHL_L => [0x75]
  | .ld_mHL_A => [0x77]
  | .ld_A_B => [0x78]
  | .ld_A_C => [0x79]
  | .ld_A_D => [0x7A]
  | .ld_A_E => [0x7B]
  | .ld_A_H => [0x7C]
  | .ld_A_L => [0x7D]
  | .ld_A_mHL => [0x7E]
  | .ld_A_A => [0x7F]
  | .ldh_mn_A n => [0xE0, n]
  | .ld_mC_A => [0xE2]
  | .ld_mnn_A nn => [0xEA, Machine.lo8 nn, Machine.hi8 nn]
  | .ldh_A_mn n => [0xF0, n]
  | .ld_A_mC => [0xF2]
  | .ld_A_mnn nn => [0xFA, Machine.lo8 nn, Machine.hi8 nn]
  | .ld_BC_nn nn => [0x01, Machine.lo8 nn, Machine.hi8 nn]
  | .ld_mnn_SP nn => [0x08, Machine.lo8 nn, Machine.hi8 nn]
  | .ld_DE_nn nn => [0x11, Machine.lo8 nn, Machine.hi8 nn]
  | .ld_HL_nn nn => [0x21, Machine.lo8 nn, Machine.hi8 nn]
  | .ld_SP_nn nn => [0x31, Machine.lo8 nn, Machine.hi8 nn]
  | .pop_BC => [0xC1]
  | .push_BC => [0xC5]
  | .pop_DE => [0xD1]
  | .push_DE => [0xD5]
  | .pop_HL => [0xE1]
  | .push_HL => [0xE5]
  | .pop_AF => [0xF1]
  | .push_AF => [0xF5]
  | .ld_HL_SPe e => [0xF8, e]
  | .ld_SP_HL => [0xF9]
  | .inc_B => [0x04]
  | .dec_B => [0x05]
  | .inc_C => [0x0C]
  | .dec_C => [0x0D]
  | .inc_D => [0x14]
  | .dec_D => [0x15]
  | .inc_E => [0x1C]
  | .dec_E => [0x1D]
  | .inc_H => [0x24]
  | .dec_H => [0x25]
  | .daa => [0x27]
  | .inc_L => [0x2C]
  | .dec_L => [0x2D]
  | .cpl => [0x2F]
  | .inc_mHL => [0x34]
  | .dec_mHL => [0x35]
  | .scf => [0x37]
  | .inc_A => [0x3C]
  | .dec_A => [0x3D]
  | .ccf => [0x3F]
  | .add_A_B => [0x80]
  | .add_A_C => [0x81]
  | .add_A_D => [0x82]
  | .add_A_E => [0x83]
  | .add_A_H => [0x84]
  | .add_A_L => [0x85]
  | .add_A_mHL => [0x86]
  | .add_A_A => [0x87]
  | .adc_A_B => [0x88]
  | .adc_A_C => [0x89]
  | .adc_A_D => [0x8A]
  | .adc_A_E => [0x8B]
  | .adc_A_H => [0x8C]
  | .adc_A_L => [0x8D]
  | .adc_A_mHL => [0x8E]
  | .adc_A_A => [0x8F]
  | .sub_A_B => [0x90]
  | .sub_A_C => [0x91]
  | .sub_A_D => [0x92]
  | .sub_A_E => [0x93]
  | .sub_A_H => [0x94]
  | .sub_A_L => [0x95]
  | .sub_A_mHL => [0x96]
  | .sub_A_A => [0x97]
  | .sbc_A_B => [0x98]
  | .sbc_A_C => [0x99]
  | .sbc_A_D => [0x9A]
  | .sbc_A_E => [0x9B]
  | .sbc_A_H => [0x9C]
  | .sbc_A_L => [0x9D]
  | .sbc_A_mHL => [0x9E]
  | .sbc_A_A => [0x9F]
  | .and_A_B => [0xA0]
  | .and_A_C => [0xA1]
  | .and_A_D => [0xA2]
  | .and_A_E => [0xA3]
  | .and_A_H => [0xA4]
  | .and_A_L => [0xA5]
  | .and_A_mHL => [0xA6]
  | .and_A_A => [0xA7]
  | .xor_A_B => [0xA8]
  | .xor_A_C => [0xA9]
  | .xor_A_D => [0xAA]
  | .xor_A_E => [0xAB]
  | .xor_A_H => [0xAC]
  | .xor_A_L => [0xAD]
  | .xor_A_mHL => [0xAE]
  | .xor_A_A => [0xAF]
  | .or_A_B => [0xB0]
  | .or_A_C => [0xB1]
  | .or_A_D => [0xB2]
  | .or_A_E => [0xB3]
  | .or_A_H => [0xB4]
  | .or_A_L => [0xB5]
  | .or_A_mHL => [0xB6]
  | .or_A_A => [0xB7]
  | .cp_A_B => [0xB8]
  | .cp_A_C => [0xB9]
  | .cp_A_D => [0xBA]
  | .cp_A_E => [0xBB]
  | .cp_A_H => [0xBC]
  | .cp_A_L => [0xBD]
  | .cp_A_mHL => [0xBE]
  | .cp_A_A => [0xBF]
  | .add_A_n n => [0xC6, n]
  | .adc_A_n n => [0xCE, n]
  | .sub_A_n n => [0xD6, n]
  | .sbc_A_n n => [0xDE, n]
  | .and_A_n n => [0xE6, n]
  | .xor_A_n n => [0xEE, n]
  | .or_A_n n => [0xF6, n]
  | .cp_A_n n => [0xFE, n]
  | .inc_BC => [0x03]
  | .add_HL_BC => [0x09]
  | .dec_BC => [0x0B]
  | .inc_DE => [0x13]
  | .add_HL_DE => [0x19]
  | .dec_DE => [0x1B]
  | .inc_HL => [0x23]
  | .add_HL_HL => [0x29]
  | .dec_HL => [0x2B]
  | .inc_SP => [0x33]
  | .add_HL_SP => [0x39]
  | .dec_SP => [0x3B]
  | .add_SP_e e => [0xE8, e]
  | .jr_e e => [0x18, e]
  | .jr_NZ_e e => [0x20, e]
  | .jr_Z_e e => [0x28, e]
  | .jr_NC_e e => [0x30, e]
  | .jr_C_e e => [0x38, e]
  | .ret_NZ => [0xC0]
  | .jp_NZ_nn nn => [0xC2, Machine.lo8 nn, Machine.hi8 nn]
  | .jp_nn nn => [0xC3, Machine.lo8 nn, Machine.hi8 nn]
  | .call_NZ_nn nn => [0xC4, Machine.lo8 nn, Machine.hi8 nn]
  | .rst_00 => [0xC7]
  | .ret_Z => [0xC8]
  | .ret => [0xC9]
  | .jp_Z_nn nn => [0xCA, Machine.lo8 nn, Machine.hi8 nn]
  | .call_Z_nn nn => [0xCC, Machine.lo8 nn, Machine.hi8 nn]
  | .call_nn nn => [0xCD, Machine.lo8 nn, Machine.hi8 nn]
  | .rst_08 => [0xCF]
  | .ret_NC => [0xD0]
  | .jp_NC_nn nn => [0xD2, Machine.lo8 nn, Machine.hi8 nn]
  | .call_NC_nn nn => [0xD4, Machine.lo8 nn, Machine.hi8 nn]
  | .rst_10 => [0xD7]
  | .ret_C => [0xD8]
  | .reti => [0xD9]
  | .jp_C_nn nn => [0xDA, Machine.lo8 nn, Machine.hi8 nn]
  | .call_C_nn nn => [0xDC, Machine.lo8 nn, Machine.hi8 nn]
  | .rst_18 => [0xDF]
  | .rst_20 => [0xE7]
  | .jp_HL => [0xE9]
  | .rst_28 => [0xEF]
  | .rst_30 => [0xF7]
  | .rst_38 => [0xFF]
  | .stop n => [0x10, n]
  | .nop => [0x00]
  | .halt => [0x76]
  | .undefined_D3 => [0xD3]
  | .undefined_DB => [0xDB]
  | .undefined_DD => [0xDD]
  | .undefined_E3 => [0xE3]
  | .undefined_E4 => [0xE4]
  | .undefined_EB => [0xEB]
  | .undefined_EC => [0xEC]
  | .undefined_ED => [0xED]
  | .di => [0xF3]
  | .undefined_F4 => [0xF4]
  | .ei => [0xFB]
  | .undefined_FC => [0xFC]
  | .undefined_FD => [0xFD]
  | .rlca => [0x07]
  | .rrca => [0x0F]
  | .rla => [0x17]
  | .rra => [0x1F]
  | .rlc_B => [0xCB, 0x00]
  | .rlc_C => [0xCB, 0x01]
  | .rlc_D => [0xCB, 0x02]
  | .rlc_E => [0xCB, 0x03]
  | .rlc_H => [0xCB, 0x04]
  | .rlc_L => [0xCB, 0x05]
  | .rlc_mHL => [0xCB, 0x06]
  | .rlc_A => [0xCB, 0x07]
  | .rrc_B => [0xCB, 0x08]
  | .rrc_C => [0xCB, 0x09]
  | .rrc_D => [0xCB, 0x0A]
  | .rrc_E => [0xCB, 0x0B]
  | .rrc_H => [0xCB, 0x0C]
  | .rrc_L => [0xCB, 0x0D]
  | .rrc_mHL => [0xCB, 0x0E]
  | .rrc_A => [0xCB, 0x0F]
  | .rl_B => [0xCB, 0x10]
  | .rl_C => [0xCB, 0x11]
  | .rl_D => [0xCB, 0x12]
  | .rl_E => [0xCB, 0x13]
  | .rl_H => [0xCB, 0x14]
  | .rl_L => [0xCB, 0x15]
  | .rl_mHL => [0xCB, 0x16]
  | .rl_A => [0xCB, 0x17]
  | .rr_B => [0xCB, 0x18]
  | .rr_C => [0xCB, 0x19]
  | .rr_D => [0xCB, 0x1A]
  | .rr_E => [0xCB, 0x1B]
  | .rr_H => [0xCB, 0x1C]
  | .rr_L => [0xCB, 0x1D]
  | .rr_mHL => [0xCB, 0x1E]
  | .rr_A => [0xCB, 0x1F]
  | .sla_B => [0xCB, 0x20]
  | .sla_C => [0xCB, 0x21]
  | .sla_D => [0xCB, 0x22]
  | .sla_E => [0xCB, 0x23]
  | .sla_H => [0xCB, 0x24]
  | .sla_L => [0xCB, 0x25]
  | .sla_mHL => [0xCB, 0x26]
  | .sla_A => [0xCB, 0x27]
  | .sra_B => [0xCB, 0x28]
  | .sra_C => [0xCB, 0x29]
  | .sra_D => [0xCB, 0x2A]
  | .sra_E => [0xCB, 0x2B]
  | .sra_H => [0xCB, 0x2C]
  | .sra_L => [0xCB, 0x2D]
  | .sra_mHL => [0xCB, 0x2E]
  | .sra_A => [0xCB, 0x2F]
  | .swap_B => [0xCB, 0x30]
  | .swap_C => [0xCB, 0x31]
  | .swap_D => [0xCB, 0x32]
  | .swap_E => [0xCB, 0x33]
  | .swap_H => [0xCB, 0x34]
  | .swap_L => [0xCB, 0x35]
  | .swap_mHL => [0xCB, 0x36]
  | .swap_A => [0xCB, 0x37]
  | .srl_B => [0xCB, 0x38]
  | .srl_C => [0xCB, 0x39]
  | .srl_D => [0xCB, 0x3A]
  | .srl_E => [0xCB, 0x3B]
  | .srl_H => [0xCB, 0x3C]
  | .srl_L => [0xCB, 0x3D]
  | .srl_mHL => [0xCB, 0x3E]
  | .srl_A => [0xCB, 0x3F]
  | .bit_0_B => [0xCB, 0x40]
  | .bit_0_C => [0xCB, 0x41]
  | .bit_0_D => [0xCB, 0x42]
  | .bit_0_E => [0xCB, 0x43]
  | .bit_0_H => [0xCB, 0x44]
  | .bit_0_L => [0xCB, 0x45]
  | .bit_0_mHL => [0xCB, 0x46]
  | .bit_0_A => [0xCB, 0x47]
  | .bit_1_B => [0xCB, 0x48]
  | .bit_1_C => [0xCB, 0x49]
  | .bit_1_D => [0xCB, 0x4A]
  | .bit_1_E => [0xCB, 0x4B]
  | .bit_1_H => [0xCB, 0x4C]
  | .bit_1_L => [0xCB, 0x4D]
  | .bit_1_mHL => [0xCB, 0x4E]
  | .bit_1_A => [0xCB, 0x4F]
  | .bit_2_B => [0xCB, 0x50]
  | .bit_2_C => [0xCB, 0x51]
  | .bit_2_D => [0xCB, 0x52]
  | .bit_2_E => [0xCB, 0x53]
  | .bit_2_H => [0xCB, 0x54]
  | .bit_2_L => [0xCB, 0x55]
  | .bit_2_mHL => [0xCB, 0x56]
  | .bit_2_A => [0xCB, 0x57]
  | .bit_3_B => [0xCB, 0x58]
  | .bit_3_C => [0xCB, 0x59]
  | .bit_3_D => [0xCB, 0x5A]
  | .bit_3_E => [0xCB, 0x5B]
  | .bit_3_H => [0xCB, 0x5C]
  | .bit_3_L => [0xCB, 0x5D]
  | .bit_3_mHL => [0xCB, 0x5E]
  | .bit_3_A => [0xCB, 0x5F]
  | .bit_4_B => [0xCB, 0x60]
  | .bit_4_C => [0xCB, 0x61]
  | .bit_4_D => [0xCB, 0x62]
  | .bit_4_E => [0xCB, 0x63]
  | .bit_4_H => [0xCB, 0x64]
  | .bit_4_L => [0xCB, 0x65]
  | .bit_4_mHL => [0xCB, 0x66]
  | .bit_4_A => [0xCB, 0x67]
  | .bit_5_B => [0xCB, 0x68]
  | .bit_5_C => [0xCB, 0x69]
  | .bit_5_D => [0xCB, 0x6A]
  | .bit_5_E => [0xCB, 0x6B]
  | .bit_5_H => [0xCB, 0x6C]
  | .bit_5_L => [0xCB, 0x6D]
  | .bit_5_mHL => [0xCB, 0x6E]
  | .bit_5_A => [0xCB, 0x6F]
  | .bit_6_B => [0xCB, 0x70]
  | .bit_6_C => [0xCB, 0x71]
  | .bit_6_D => [0xCB, 0x72]
  | .bit_6_E => [0xCB, 0x73]
  | .bit_6_H => [0xCB, 0x74]
  | .bit_6_L => [0xCB, 0x75]
  | .bit_6_mHL => [0xCB, 0x76]
  | .bit_6_A => [0xCB, 0x77]
  | .bit_7_B => [0xCB, 0x78]
  | .bit_7_C => [0xCB, 0x79]
  | .bit_7_D => [0xCB, 0x7A]
  | .bit_7_E => [0xCB, 0x7B]
  | .bit_7_H => [0xCB, 0x7C]
  | .bit_7_L => [0xCB, 0x7D]
  | .bit_7_mHL => [0xCB, 0x7E]
  | .bit_7_A => [0xCB, 0x7F]
  | .res_0_B => [0xCB, 0x80]
  | .res_0_C => [0xCB, 0x81]
  | .res_0_D => [0xCB, 0x82]
  | .res_0_E => [0xCB, 0x83]
  | .res_0_H => [0xCB, 0x84]
  | .res_0_L => [0xCB, 0x85]
  | .res_0_mHL => [0xCB, 0x86]
  | .res_0_A => [0xCB, 0x87]
  | .res_1_B => [0xCB, 0x88]
  | .res_1_C => [0xCB, 0x89]
  | .res_1_D => [0xCB, 0x8A]
  | .res_1_E => [0xCB, 0x8B]
  | .res_1_H => [0xCB, 0x8C]
  | .res_1_L => [0xCB, 0x8D]
  | .res_1_mHL => [0xCB, 0x8E]
  | .res_1_A => [0xCB, 0x8F]
  | .res_2_B => [0xCB, 0x90]
  | .res_2_C => [0xCB, 0x91]
  | .res_2_D => [0xCB, 0x92]
  | .res_2_E => [0xCB, 0x93]
  | .res_2_H => [0xCB, 0x94]
  | .res_2_L => [0xCB, 0x95]
  | .res_2_mHL => [0xCB, 0x96]
  | .res_2_A => [0xCB, 0x97]
  | .res_3_B => [0xCB, 0x98]
  | .res_3_C => [0xCB, 0x99]
  | .res_3_D => [0xCB, 0x9A]
  | .res_3_E => [0xCB, 0x9B]
  | .res_3_H => [0xCB, 0x9C]
  | .res_3_L => [0xCB, 0x9D]
  | .res_3_mHL => [0xCB, 0x9E]
  | .res_3_A => [0xCB, 0x9F]
  | .res_4_B => [0xCB, 0xA0]
  | .res_4_C => [0xCB, 0xA1]
  | .res_4_D => [0xCB, 0xA2]
  | .res_4_E => [0xCB, 0xA3]
  | .res_4_H => [0xCB, 0xA4]
  | .res_4_L => [0xCB, 0xA5]
  | .res_4_mHL => [0xCB, 0xA6]
  | .res_4_A => [0xCB, 0xA7]
  | .res_5_B => [0xCB, 0xA8]
  | .res_5_C => [0xCB, 0xA9]
  | .res_5_D => [0xCB, 0xAA]
  | .res_5_E => [0xCB, 0xAB]
  | .res_5_H => [0xCB, 0xAC]
  | .res_5_L => [0xCB, 0xAD]
  | .res_5_mHL => [0xCB, 0xAE]
  | .res_5_A => [0xCB, 0xAF]
  | .res_6_B => [0xCB, 0xB0]
  | .res_6_C => [0xCB, 0xB1]
  | .res_6_D => [0xCB, 0xB2]
  | .res_6_E => [0xCB, 0xB3]
  | .res_6_H => [0xCB, 0xB4]
  | .res_6_L => [0xCB, 0xB5]
  | .res_6_mHL => [0xCB, 0xB6]
  | .res_6_A => [0xCB, 0xB7]
  | .res_7_B => [0xCB, 0xB8]
  | .res_7_C => [0xCB, 0xB9]
  | .res_7_D => [0xCB, 0xBA]
  | .res_7_E => [0xCB, 0xBB]
  | .res_7_H => [0xCB, 0xBC]
  | .res_7_L => [0xCB, 0xBD]
  | .res_7_mHL => [0xCB, 0xBE]
  | .res_7_A => [0xCB, 0xBF]
  | .set_0_B => [0xCB, 0xC0]
  | .set_0_C => [0xCB, 0xC1]
  | .set_0_D => [0xCB, 0xC2]
  | .set_0_E => [0xCB, 0xC3]
  | .set_0_H => [0xCB, 0xC4]
  | .set_0_L => [0xCB, 0xC5]
  | .set_0_mHL => [0xCB, 0xC6]
  | .set_0_A => [0xCB, 0xC7]
  | .set_1_B => [0xCB, 0xC8]
  | .set_1_C => [0xCB, 0xC9]
  | .set_1_D => [0xCB, 0xCA]
  | .set_1_E => [0xCB, 0xCB]
  | .set_1_H => [0xCB, 0xCC]
  | .set_1_L => [0xCB, 0xCD]
  | .set_1_mHL => [0xCB, 0xCE]
  | .set_1_A => [0xCB, 0xCF]
  | .set_2_B => [0xCB, 0xD0]
  | .set_2_C => [0xCB, 0xD1]
  | .set_2_D => [0xCB, 0xD2]
  | .set_2_E => [0xCB, 0xD3]
  | .set_2_H => [0xCB, 0xD4]
  | .set_2_L => [0xCB, 0xD5]
  | .set_2_mHL => [0xCB, 0xD6]
  | .set_2_A => [0xCB, 0xD7]
  | .set_3_B => [0xCB, 0xD8]
  | .set_3_C => [0xCB, 0xD9]
  | .set_3_D => [0xCB, 0xDA]
  | .set_3_E => [0xCB, 0xDB]
  | .set_3_H => [0xCB, 0xDC]
  | .set_3_L => [0xCB, 0xDD]
  | .set_3_mHL => [0xCB, 0xDE]
  | .set_3_A => [0xCB, 0xDF]
  | .set_4_B => [0xCB, 0xE0]
  | .set_4_C => [0xCB, 0xE1]
  | .set_4_D => [0xCB, 0xE2]
  | .set_4_E => [0xCB, 0xE3]
  | .set_4_H => [0xCB, 0xE4]
  | .set_4_L => [0xCB, 0xE5]
  | .set_4_mHL => [0xCB, 0xE6]
  | .set_4_A => [0xCB, 0xE7]
  | .set_5_B => [0xCB, 0xE8]
  | .set_5_C => [0xCB, 0xE9]
  | .set_5_D => [0xCB, 0xEA]
  | .set_5_E => [0xCB, 0xEB]
  | .set_5_H => [0xCB, 0xEC]
  | .set_5_L => [0xCB, 0xED]
  | .set_5_mHL => [0xCB, 0xEE]
  | .set_5_A => [0xCB, 0xEF]
  | .set_6_B => [0xCB, 0xF0]
  | .set_6_C => [0xCB, 0xF1]
  | .set_6_D => [0xCB, 0xF2]
  | .set_6_E => [0xCB, 0xF3]
  | .set_6_H => [0xCB, 0xF4]
  | .set_6_L => [0xCB, 0xF5]
  | .set_6_mHL => [0xCB, 0xF6]
  | .set_6_A => [0xCB, 0xF7]
  | .set_7_B => [0xCB, 0xF8]
  | .set_7_C => [0xCB, 0xF9]
  | .set_7_D => [0xCB, 0xFA]
  | .set_7_E => [0xCB, 0xFB]
  | .set_7_H => [0xCB, 0xFC]
  | .set_7_L => [0xCB, 0xFD]
  | .set_7_mHL => [0xCB, 0xFE]
  | .set_7_A => [0xCB, 0xFF]

/-- The bytes of a list of instructions, one after another. -/
def encodeAll (is : List Instr) : List Byte :=
  match is with
  | [] => []
  | i :: rest => encode i ++ encodeAll rest

/-- Reads `n` instructions one after another, and answers them with the bytes left. -/
def decodeMany (n : Nat) (bytes : List Byte) : Except DecodeError (List Instr × List Byte) :=
  match n with
  | 0 => .ok ([], bytes)
  | n + 1 =>
    match decode bytes with
    | .error e => .error e
    | .ok (i, rest) =>
      match decodeMany n rest with
      | .error e => .error e
      | .ok (is, rest) => .ok (i :: is, rest)

end Sys2Proof
end

