-- ==== Sys2Proof/Machine/Memory.lean ====
section
/-! DEFINITION. The address space as data (spec/20_memory.md R100): a list of (address, byte) cells in one canonical
form, addresses strictly rising, all below 65,536, and no cell equal to what an unlisted address reads as. This is the
raw array `mem[a]` of R100, with no interception; the intercepted `Read` and `Write` are in Machine/Ops.lean. -/

namespace Sys2Proof.Machine

/-- The I/O bytes the power-on sequence leaves: the power-on table (R464), P1 (R465) and STAT (R71, R464). -/
def Memory.resetIo : List (Nat × Byte) :=
  Config.powerOnTable ++ [(0xFF00, 0xFF), (0xFF41, 0x06)]

/-- What an unlisted address reads as: the byte that power-on leaves there (R463, R464; log 7). -/
def Memory.initial (addr : Nat) : Byte :=
  if addr < 0xFF00 then Config.initRam else (Memory.resetIo.lookup addr).getD Config.initRam

/-- `mem[addr]`. -/
def Memory.get (m : List Host.Cell) (addr : Nat) : Byte :=
  match m with
  | [] => Memory.initial addr
  | (b, w) :: rest => if addr = b then w else Memory.get rest addr

/-- The cell to hold for `addr`, or none where the byte is what an unlisted address reads as. -/
def Memory.cell (addr : Nat) (v : Byte) : List Host.Cell :=
  if v = Memory.initial addr then [] else [(addr, v)]

/-- The cells of every other address. -/
def Memory.drop (m : List Host.Cell) (addr : Nat) : List Host.Cell := m.filter fun c => c.1 != addr

/-- Puts the cell of `addr` before the first higher address. -/
def Memory.insert (m : List Host.Cell) (addr : Nat) (v : Byte) : List Host.Cell :=
  match m with
  | [] => Memory.cell addr v
  | (b, w) :: rest =>
    if addr < b then Memory.cell addr v ++ (b, w) :: rest else (b, w) :: Memory.insert rest addr v

/-- `mem[addr] <- v`, keeping the canonical form. -/
def Memory.set (m : List Host.Cell) (addr : Nat) (v : Byte) : List Host.Cell :=
  Memory.insert (Memory.drop m addr) addr v

/-- The canonical form of a memory whose addresses are `low` or above. -/
def Memory.wfFrom (low : Nat) (m : List Host.Cell) : Bool :=
  match m with
  | [] => true
  | (b, w) :: rest => decide (low ≤ b) && decide (b < 65536) && decide (w ≠ Memory.initial b) && Memory.wfFrom (b + 1) rest

/-- The canonical form: addresses strictly rising and in range, no cell that an unlisted address would read as. -/
def Memory.wf (m : List Host.Cell) : Bool := Memory.wfFrom 0 m

/-- `mem[addr]` of a state. -/
def State.raw (s : State) (addr : Nat) : Byte := Memory.get s.mem addr

/-- `mem[addr] <- v` with no interception: only the owning units do this (R112). -/
def State.setRaw (s : State) (addr : Nat) (v : Byte) : State := { s with mem := Memory.set s.mem addr v }

end Sys2Proof.Machine
end

