-- ==== Sys2Proof/Machine/Interrupt.lean ====
section
/-! DEFINITION. The interrupt controller: the two mask bytes, requests, priority, the derived latch (spec/10_state.md R32,
R33; spec/60_exceptions.md R410 to R413). Taking an interrupt is `dispatch` in Machine/Ops.lean. -/

namespace Sys2Proof.Machine

/-- The enabled requests `IE & IF & 0x1F` (R430). -/
def State.pend (s : State) : Byte := s.raw 0xFFFF &&& s.raw 0xFF0F &&& 0x1F

/-- The lowest line in 0 to 4 whose bit is set (R413); 4 where none is, and then nothing uses it. -/
def lowestLine (pend : Byte) : Nat :=
  if pend.getLsbD 0 then 0
  else if pend.getLsbD 1 then 1
  else if pend.getLsbD 2 then 2
  else if pend.getLsbD 3 then 3
  else 4

/-- The vector of a line, `0x40 + 8 * line` (R410, R420). -/
def vectorOf (line : Nat) : Word := BitVec.ofNat 16 (0x40 + 8 * line)

/-- The byte whose only set bit is `line`. -/
def lineBit (line : Nat) : Byte := 1#8 <<< line

/-- The pending-dispatch address latch, as derived state (R33, D6; log 8). -/
def State.latch (s : State) : Option Word :=
  if s.ime && s.pend != 0 then some (vectorOf (lowestLine s.pend)) else none

/-- `Request(line)`: a direct update of the stored byte of IF (R412). -/
def request (line : Nat) (s : State) : State := s.setRaw 0xFF0F (s.raw 0xFF0F ||| lineBit line)

/-- The clearing of the dispatched request bit, and only of it (R420). -/
def clearRequest (line : Nat) (s : State) : State := s.setRaw 0xFF0F (s.raw 0xFF0F &&& ~~~lineBit line)

/-- `Request(line)` where a condition gates it. -/
def requestIf (cond : Bool) (line : Nat) (s : State) : State := if cond then request line s else s

end Sys2Proof.Machine
end

