-- ==== Sys2Proof/Machine/Joypad.lean ====
section
/-! DEFINITION. The joypad adapter (spec/11_io_registers.md R65; spec/60_exceptions.md R440 to R442). -/

namespace Sys2Proof.Machine

/-- `KeysFor(sel)`: the AND of the selected groups' nibbles (R65). -/
def State.keysFor (s : State) (sel : Byte) : Byte :=
  (if sel.getLsbD 4 then 0x0F#8 else s.joypad &&& 0x0F#8) &&& (if sel.getLsbD 5 then 0x0F#8 else s.joypad >>> (4 : Nat))

/-- The value P1 takes for a selection (R65). -/
def resolveKeys (sel : Byte) (s : State) : State := s.setRaw 0xFF00 (0xC0 ||| sel ||| s.keysFor sel)

/-- `JoypadSelectWrite(v)`: a CPU store to 0xFF00; it requests nothing (R65, R442). -/
def joypadSelectWrite (v : Byte) (s : State) : State := resolveKeys (v &&& 0x30) s

/-- `SetJoypad(new)`, a host move (R441). -/
def setJoypad (new : Byte) (s : State) : State :=
  let sel := s.raw 0xFF00 &&& 0x30
  let down := s.joypad &&& ~~~new
  let hit := (!sel.getLsbD 4 && (down &&& 0x0F) != 0) || (!sel.getLsbD 5 && (down &&& 0xF0) != 0)
  requestIf hit 4 (resolveKeys sel { s with joypad := new })

end Sys2Proof.Machine
end

