-- ==== Sys2Proof/Machine/Ppu.lean ====
section
/-! DEFINITION. The picture-processing unit's register handlers, caches and scanline state machine (spec/50_ppu.md). The
compositor is in Machine/Render.lean; the OAM DMA, which goes through the write path, is in Machine/Ops.lean. -/

namespace Sys2Proof.Machine

/-! ## STAT (R346) -/

/-- STAT bits 1:0 (R71, R346). -/
def State.statMode (s : State) : BitVec 2 :=
  if !s.lcdOn then 0
  else if 144 ≤ s.scanline then 1
  else
    match s.mode with
    | .hblank => 0
    | .spriteSearch => 2
    | .pixelTransfer => 3

/-- STAT bit 2: the scanline equals LYC (R71, R346). -/
def State.coincidence (s : State) : Bool := s.scanline == (s.raw 0xFF45).toNat

/-- The three read-only bits of STAT as a byte, `{k, m[1:0]}` (R346). -/
def State.statBits (s : State) : Byte := 0#5 ++ BitVec.ofBool s.coincidence ++ s.statMode

/-- `StatRefresh()`: the privileged write of STAT bits 2:0 (R62, R346). -/
def statRefresh (s : State) : State := s.setRaw 0xFF41 (maskedWrite (s.raw 0xFF41) s.statBits 0x07)

/-! ## LCDC (R340 to R342) -/

/-- The tile map a select bit names (R70). -/
def mapOf (sel : Bool) : TileMap := if sel then .at9C00 else .at9800

/-- The base address of a tile map (R44). -/
def TileMap.base (m : TileMap) : Nat :=
  match m with
  | .at9800 => 0x9800
  | .at9C00 => 0x9C00

/-- The flags LCDC decodes to (R340). -/
def lcdcFlags (s : State) : State :=
  let c := s.raw 0xFF40
  { s with
    bgOn := c.getLsbD 0, spriteOn := c.getLsbD 1, bgMap := mapOf (c.getLsbD 3), tileUnsigned := c.getLsbD 4
    winOn := c.getLsbD 5, winMap := mapOf (c.getLsbD 6), lcdOn := c.getLsbD 7 }

/-- The enable edge (R341). -/
def lcdEnable (s : State) : State :=
  statRefresh { s with scanline := 0, mode := .spriteSearch, nextEvent := s.elapsed + 80 }

/-- The disable edge (R342); `nextEvent` keeps its value. -/
def lcdDisable (s : State) : State := statRefresh { s with scanline := 0, mode := .hblank }

/-- `LcdcDecode()`: decode the flags, then act on an edge of `lcd_on` (R340). -/
def lcdcDecode (s : State) : State :=
  let t := lcdcFlags s
  if !s.lcdOn && t.lcdOn then lcdEnable t
  else if s.lcdOn && !t.lcdOn then lcdDisable t
  else t

/-! ## Caches kept on writes (R360 to R366) -/

/-- One decoded tile row, leftmost pixel first: bit 7 of the two planes is column 0 (R360). -/
def tileRow (lo hi : Byte) : List Colour :=
  [7, 6, 5, 4, 3, 2, 1, 0].map fun k => (BitVec.ofBool (hi.getLsbD k) ++ BitVec.ofBool (lo.getLsbD k) : BitVec 2)

/-- The address of the low plane of a tile row (R360). -/
def tileRowAddr (t row : Nat) : Nat := 0x8000 + 16 * t + 2 * row

/-- A tile row as the bytes of `mem` give it (R46, R360). -/
def State.memTileRow (s : State) (t row : Nat) : List Colour :=
  tileRow (s.raw (tileRowAddr t row)) (s.raw (tileRowAddr t row + 1))

/-- `tiles[t][row]` of the cache. -/
def State.cachedTileRow (s : State) (t row : Nat) : List Colour := (s.tiles.getD t []).getD row []

/-- `PpuVramWrite(addr)`, after the byte is stored: re-decode the row that holds it (R360). -/
def ppuVramWrite (addr : Nat) (s : State) : State :=
  if addr < 0x9800 then
    let o := addr - 0x8000
    let t := o / 16
    let row := o % 16 / 2
    { s with tiles := s.tiles.set t ((s.tiles.getD t []).set row (s.memTileRow t row)) }
  else s

/-- `sprites[i]` of the sprite table. -/
def State.sprite (s : State) (i : Nat) : Sprite := s.sprites.getD i Sprite.zero

/-- The descriptor field that byte `k` of a sprite's four holds (R364). -/
def Sprite.update (sp : Sprite) (k : Nat) (b : Byte) : Sprite :=
  match k with
  | 0 => { sp with y := b }
  | 1 => { sp with x := b }
  | 2 => { sp with tile := b }
  | _ => { sp with behind := b.getLsbD 7, yflip := b.getLsbD 6, xflip := b.getLsbD 5, pal := b.getLsbD 4 }

/-- A descriptor as the bytes of OAM give it (R47, R364). -/
def State.memSprite (s : State) (i : Nat) : Sprite :=
  let o := 0xFE00 + 4 * i
  (((Sprite.zero.update 0 (s.raw o)).update 1 (s.raw (o + 1))).update 2 (s.raw (o + 2))).update 3 (s.raw (o + 3))

/-- `PpuOamWrite(addr)`, after the byte is stored: update the field that holds it (R364). -/
def ppuOamWrite (addr : Nat) (s : State) : State :=
  let i := (addr - 0xFE00) / 4
  let k := (addr - 0xFE00) % 4
  { s with sprites := s.sprites.set i ((s.sprite i).update k (s.raw addr)) }

/-- `PalDecode(b)` (R366). -/
def palDecode (b : Byte) : Palette := { p0 := field2 b 0, p1 := field2 b 1, p2 := field2 b 2, p3 := field2 b 3 }

/-! ## Register writes (R338) -/

/-- `PpuRegWrite(addr, v)`: the byte to store, or none for the veto (R338). -/
def ppuRegWrite (addr : Nat) (v : Byte) (s : State) : Option Byte :=
  if addr = 0xFF41 then some (maskedWrite (s.raw 0xFF41) v 0x78)
  else if addr = 0xFF44 then none
  else some v

/-- `PpuRegAfterStore(addr)` (R338), but for 0xFF46, whose copy `write` runs. -/
def ppuRegAfterStore (addr : Nat) (s : State) : State :=
  if addr = 0xFF40 then lcdcDecode s
  else if addr = 0xFF45 then statRefresh s
  else if addr = 0xFF47 then { s with palBg := palDecode (s.raw 0xFF47) }
  else if addr = 0xFF48 then { s with palObj0 := palDecode (s.raw 0xFF48) }
  else if addr = 0xFF49 then { s with palObj1 := palDecode (s.raw 0xFF49) }
  else s

end Sys2Proof.Machine
end

