-- ==== Sys2Proof/Machine/Render.lean ====
section
/-! DEFINITION. The per-scanline compositor (spec/50_ppu.md R370 to R376). It reads `mem` directly (D51) and writes one
row of `lines`. -/

namespace Sys2Proof.Machine

/-- `tiles[t][r][q]` (R46). -/
def State.tilePixel (s : State) (t r q : Nat) : Colour := (s.cachedTileRow t r).getD q 0

/-- The shade a palette gives a colour index (R48). -/
def Palette.shade (p : Palette) (c : Colour) : Shade :=
  match c.toNat with
  | 0 => p.p0
  | 1 => p.p1
  | 2 => p.p2
  | _ => p.p3

/-- `TileIndex(n)` (R376). -/
def State.tileIndex (s : State) (n : Byte) : Nat :=
  if s.tileUnsigned then n.toNat else if n.toNat < 128 then 256 + n.toNat else n.toNat

/-- The tile-map byte of the cell at plane position (`x`, `y`) of a map (R372, R373). -/
def State.mapByte (s : State) (m : TileMap) (x y : Nat) : Byte := s.raw (m.base + 32 * (y / 8) + x / 8)

/-- The colour index of a map's plane at (`x`, `y`) (R372, R373). -/
def State.planeColour (s : State) (m : TileMap) (x y : Nat) : Colour :=
  s.tilePixel (s.tileIndex (s.mapByte m x y)) (y % 8) (x % 8)

/-- Recomputes a row entry by entry from its index and its old value. -/
def mapRow (f : Nat → Shade → Shade) (row : List Shade) : List Shade := row.zipIdx.map fun p => f p.2 p.1

/-- `DrawBackground(ly, row)` (R372): colour index 0 leaves what is there. -/
def drawBackground (s : State) (ly : Nat) (row : List Shade) : List Shade :=
  let y := (ly + (s.raw 0xFF42).toNat) % 256
  mapRow (fun i old =>
    if 8 ≤ i ∧ i < 168 then
      let c := s.planeColour s.bgMap ((i - 8 + (s.raw 0xFF43).toNat) % 256) y
      if c = 0 then old else s.palBg.shade c
    else old) row

/-- `DrawWindow(ly, row)` (R373): from screen column `WX - 7`, every colour index overwrites. With `i = 8 + sx` the
condition `sx >= WX - 7` is `WX + 1 <= i`, and then the window column is `i - (WX + 1)`. -/
def drawWindow (s : State) (ly : Nat) (row : List Shade) : List Shade :=
  let wy := ly - (s.raw 0xFF4A).toNat
  let left := (s.raw 0xFF4B).toNat + 1
  mapRow (fun i old =>
    if 8 ≤ i ∧ i < 168 ∧ left ≤ i then s.palBg.shade (s.planeColour s.winMap (i - left) wy) else old) row

/-- Whether a sprite covers a line: `y <= ly + 16 < y + 8` (R374). -/
def Sprite.covers (sp : Sprite) (ly : Nat) : Bool :=
  decide (sp.y.toNat ≤ ly + 16) && decide (ly + 16 < sp.y.toNat + 8)

/-- Whether the first of two numbered sprites is drawn before the second: smaller `x`, or equal `x` and larger index
(R375). -/
def drawnBefore (p q : Nat × Sprite) : Bool :=
  decide (p.2.x.toNat < q.2.x.toNat) || (decide (p.2.x = q.2.x) && decide (q.1 < p.1))

/-- Inserts a numbered sprite in drawing order. -/
def insertSprite (p : Nat × Sprite) (list : List (Nat × Sprite)) : List (Nat × Sprite) :=
  match list with
  | [] => [p]
  | q :: rest => if drawnBefore p q then p :: q :: rest else q :: insertSprite p rest

/-- The sprites of one pass that cover a line, in drawing order (R374, R375). -/
def spritesOfLine (s : State) (ly : Nat) (behind : Bool) : List (Nat × Sprite) :=
  (((List.range 40).map fun i => (i, s.sprite i)).filter fun p => p.2.behind == behind && p.2.covers ly).foldr
    insertSprite []

/-- One sprite drawn into a row (R374): buffer index `x + px`, colour index 0 transparent, clipped by the row's end. -/
def drawSprite (s : State) (ly : Nat) (sp : Sprite) (row : List Shade) : List Shade :=
  let r0 := ly + 16 - sp.y.toNat
  let r := if sp.yflip then 7 - r0 else r0
  mapRow (fun i old =>
    if sp.x.toNat ≤ i ∧ i < sp.x.toNat + 8 then
      let px := i - sp.x.toNat
      let q := if sp.xflip then 7 - px else px
      let c := s.tilePixel sp.tile.toNat r q
      if c = 0 then old else (if sp.pal then s.palObj1 else s.palObj0).shade c
    else old) row

/-- `DrawSprites(ly, row, behind)` (R374). -/
def drawSprites (s : State) (ly : Nat) (behind : Bool) (row : List Shade) : List Shade :=
  (spritesOfLine s ly behind).foldl (fun row p => drawSprite s ly p.2 row) row

/-- The row `RenderLine(ly)` computes, layer by layer, back to front (R370, R371). -/
def composeLine (s : State) (ly : Nat) : List Shade :=
  let base := List.replicate 176 s.palBg.p0
  let r2 := if s.spriteOn then drawSprites s ly true base else base
  let r3 := if s.bgOn then drawBackground s ly r2 else r2
  let r4 := if s.winOn && decide ((s.raw 0xFF4A).toNat ≤ ly) then drawWindow s ly r3 else r3
  if s.spriteOn then drawSprites s ly false r4 else r4

/-- `RenderLine(ly)` (R370). -/
def renderLine (ly : Nat) (s : State) : State := { s with lines := s.lines.set ly (composeLine s ly) }

end Sys2Proof.Machine
end

