-- ==== Sys2Proof/Machine/Timing.lean ====
section
/-! DEFINITION. The virtual clock and the scanline-mode state machine (spec/60_exceptions.md R434; spec/50_ppu.md R330,
R348 to R354). -/

namespace Sys2Proof.Machine

/-- `StepClock(cycles)` (R434). -/
def stepClock (cycles : Nat) (s : State) : State := { s with elapsed := s.elapsed + cycles }

/-- Bit `i` of STAT as a gate. -/
def State.statBit (s : State) (i : Nat) : Bool := (s.raw 0xFF41).getLsbD i

/-- `LycCheck()` (R353). -/
def lycCheck (s : State) : State := requestIf (s.coincidence && s.statBit 6) 1 s

/-- `ToPixelTransfer()` (R349). -/
def toPixelTransfer (s : State) : State :=
  requestIf (s.statBit Config.statPtEnableBit) 1 { s with mode := .pixelTransfer, nextEvent := s.nextEvent + 172 }

/-- `ToHblank()` (R350): the line is rendered, then the mode changes. -/
def toHblank (s : State) : State :=
  let t := renderLine s.scanline s
  { t with mode := .hblank, nextEvent := t.nextEvent + 204 }

/-- `HblankEnd()` (R351). -/
def hblankEnd (s : State) : State :=
  let line := s.scanline + 1
  lycCheck
    (if line < 144 then
      requestIf (s.statBit 5) 1 { s with scanline := line, mode := .spriteSearch, nextEvent := s.nextEvent + 80 }
    else request 0 { s with scanline := line, mode := .hblank, nextEvent := s.nextEvent + 456 })

/-- `VblankLineEnd()` (R352). -/
def vblankLineEnd (s : State) : State :=
  lycCheck
    (if s.scanline < 153 then { s with scanline := s.scanline + 1, nextEvent := s.nextEvent + 456 }
    else requestIf (s.statBit 5) 1 { s with scanline := 0, mode := .spriteSearch, nextEvent := s.nextEvent + 80 })

/-- The one transition a timing check makes (R348). -/
def ppuTransition (s : State) : State :=
  if 144 ≤ s.scanline then vblankLineEnd s
  else
    match s.mode with
    | .spriteSearch => toPixelTransfer s
    | .pixelTransfer => toHblank s
    | .hblank => hblankEnd s

/-- `PpuTimingCheck()` (R348). -/
def ppuTimingCheck (s : State) : State :=
  if !s.lcdOn then s
  else if s.elapsed < s.nextEvent then s
  else statRefresh (ppuTransition s)

end Sys2Proof.Machine
end

