-- ==== Sys2Proof/Machine/Ops.lean ====
section
/-! DEFINITION. The named operations every meaning is built from: the intercepted `Read` and `Write` of the address space
with the OAM DMA (spec/20_memory.md R110 to R115; spec/50_ppu.md R368), the stack, the fetch (spec/30_encoding.md R140),
taking an interrupt and returning from one (spec/60_exceptions.md R420, R422), the decode failure (R400) and the refusal
of `STOP` (spec/46_system.md R313). -/

namespace Sys2Proof.Machine

/-! ## The address space -/

/-- `Read(addr)`: live at LY, the stored byte elsewhere, the DMA register among them; no side effect (R74, R76, R110). -/
def read (s : State) (addr : Word) : Byte :=
  if addr = 0xFF44 then BitVec.ofNat 8 s.scanline else s.raw addr.toNat

/-- `Write(addr, v)` but for the copy that a store to 0xFF46 triggers (R111). The stores to IF and IE need nothing
after them, since the latch is derived (log 8). -/
def writeNoDma (addr : Word) (v : Byte) (s : State) : State :=
  let a := addr.toNat
  if a < 0x8000 then s
  else if a ≤ 0x9FFF then ppuVramWrite a (s.setRaw a v)
  else if 0xFE00 ≤ a ∧ a ≤ 0xFE9F then ppuOamWrite a (s.setRaw a v)
  else if a = 0xFF00 then joypadSelectWrite v s
  else if 0xFF40 ≤ a ∧ a ≤ 0xFF4B then
    match ppuRegWrite a v s with
    | none => s
    | some w => ppuRegAfterStore a (s.setRaw a w)
  else s.setRaw a v

/-- `OamDma(v)` (R368). Its stores all go to 0xFE00 to 0xFE9F, where `Write` is `writeNoDma` (log 16). -/
def oamDma (v : Byte) (s : State) : State :=
  (List.range 160).foldl
    (fun s k => writeNoDma (0xFE00#16 + BitVec.ofNat 16 k) (read s (mk16 v 0 + BitVec.ofNat 16 k)) s) s

/-- `Write(addr, v)` (R111). -/
def write (addr : Word) (v : Byte) (s : State) : State :=
  let t := writeNoDma addr v s
  if addr = 0xFF46 then oamDma (t.raw 0xFF46) t else t

/-- `Read16(addr)`: low byte first, little-endian (R113, R114). -/
def read16 (s : State) (addr : Word) : Word := mk16 (read s (addr + 1)) (read s addr)

/-- `Write16(addr, v)`: low byte first; the second write sees what the first one changed (R115). -/
def write16 (addr : Word) (v : Word) (s : State) : State := write (addr + 1) (hi8 v) (write addr (lo8 v) s)

/-! ## The stack (R24, R205, R206) -/

/-- Pushes a word: `SP <- SP - 2`, then the store at the new `SP`. -/
def push (v : Word) (s : State) : State := write16 (s.sp - 2) v { s with sp := s.sp - 2 }

/-- `SP <- SP + 2`, after the word at `SP` has been read. -/
def dropWord (s : State) : State := { s with sp := s.sp + 2 }

/-- `RET`: the popped word becomes `PC` (R298). -/
def popPc (s : State) : State := { dropWord s with pc := read16 s s.sp }

/-! ## Exceptions -/

/-- `Dispatch()`, taking an interrupt: push `PC`, go to the vector of the lowest enabled pending line, clear `IME`
and that line's request, cost 16 (R413, R420). -/
def dispatch (s : State) : State :=
  let line := lowestLine s.pend
  stepClock 16 (clearRequest line { push s.pc s with pc := vectorOf line, ime := false })

/-- The return from an interrupt: pop `PC`, set `IME` (R300, R422). -/
def returnFromInterrupt (s : State) : State := { popPc s with ime := true }

/-- `raise DecodeFailure(addr, opcode)`: the status becomes the terminal fault and nothing else changes (R400). -/
def raiseDecodeFailure (addr : Word) (opcode : Byte) (s : State) : State := { s with status := .faulted addr opcode }

/-- `refuse STOP`: the status becomes the terminal refusal (R313). -/
def refuseStop (addr : Word) (s : State) : State := { s with status := .refusedStop addr }

/-! ## Fetch (R116, R140) -/

/-- The bytes of the instruction at `PC`, in ascending address order. -/
def fetchBytes (s : State) : List Byte :=
  (List.range (lengthOf (read s s.pc))).map fun k => read s (s.pc + BitVec.ofNat 16 k)

/-- `PC` advanced past an instruction of `len` bytes (R25). -/
def advance (len : Nat) (s : State) : State := { s with pc := s.pc + BitVec.ofNat 16 len }

/-- The instruction at `PC`: the opcode, and the operand bytes its length asks for (R140). -/
def fetchInstr (s : State) : Instr :=
  let op := read s s.pc
  let len := lengthOf op
  let o8 := if 2 ≤ len then read s (s.pc + 1) else 0
  let o16 := if len = 3 then mk16 (read s (s.pc + 2)) o8 else 0
  decodeParts op o8 o16

/-- `Fetch()`: the instruction, and the state with `PC` past it (R140). -/
def fetch (s : State) : Instr × State := (fetchInstr s, advance (lengthOf (read s s.pc)) s)

/-! ## The parts of a step around an instruction (R430) -/

/-- Whether a step is an idle tick: halted, and no enabled request (R430). -/
def State.idles (s : State) : Bool := s.halted && s.pend == 0

/-- Whether a step that is no idle tick is a dispatch (R430). -/
def State.dispatches (s : State) : Bool := s.ime && s.pend != 0

/-- Leaving the low-power mode, which every step that is no idle tick does (R312, R430). -/
def wake (s : State) : State := { s with halted := false }

/-- Whether the budget lets the machine go on: `elapsed < budget` (R41, R436). -/
def State.withinBudget (s : State) : Bool :=
  match s.budget with
  | .upTo n => decide (s.elapsed < n)
  | .max => true

/-- What follows an instruction: the PPU timing check, unless the step ended in a fault or a refusal (R430, R431). -/
def afterInstr (t : State) : State := if t.status = .running then ppuTimingCheck t else t

/-- The same on the outcome of an instruction. -/
def finishStep (r : Result) : Result :=
  match r with
  | .next t => .next (afterInstr t)
  | .fault x => .fault x
  | .refused x => .refused x

/-! ## Placing an instruction (log 14) -/

/-- Stores bytes in the raw array at ascending addresses. -/
def placeBytes (addr : Word) (bytes : List Byte) (s : State) : State :=
  match bytes with
  | [] => s
  | b :: rest => placeBytes (addr + 1) rest (s.setRaw addr.toNat b)

/-- The state with its gate open (R436) and no idle tick and no dispatch due (R430), changed only as far as that
needs. -/
def readyToFetch (s : State) : State :=
  { s with
    status := .running, ended := false, halted := false
    ime := s.ime && s.pend == 0
    budget := if s.withinBudget then s.budget else .upTo (s.elapsed + 1) }

/-- `PC` moved to the entry point where the bytes at it would not all be read back as stored (0xFF44, R74). -/
def fetchable (s : State) : State :=
  if s.pc = 0xFF42 ∨ s.pc = 0xFF43 ∨ s.pc = 0xFF44 then { s with pc := 0x0100 } else s

end Sys2Proof.Machine
end

