-- ==== Sys2Proof/Machine/Operands.lean ====
section
/-! DEFINITION. The operand forms: registers and their 16-bit views, the indexed operand `r8[i]`, the addressing modes of
the loads, the second operand of the accumulator operations, the conditions (spec/10_state.md R20 to R22;
spec/30_encoding.md R147 to R151; spec/40_load8.md R190; spec/42_alu8.md R216). -/

namespace Sys2Proof.Machine

/-! ## Registers -/

/-- An 8-bit register (R20). -/
def State.r8 (s : State) (r : R8) : Byte :=
  match r with
  | .b => s.b
  | .c => s.c
  | .d => s.d
  | .e => s.e
  | .h => s.h
  | .l => s.l
  | .a => s.a

/-- The write of an 8-bit register. -/
def State.setR8 (s : State) (r : R8) (v : Byte) : State :=
  match r with
  | .b => { s with b := v }
  | .c => { s with c := v }
  | .d => { s with d := v }
  | .e => { s with e := v }
  | .h => { s with h := v }
  | .l => { s with l := v }
  | .a => { s with a := v }

/-- `AF` (R21). -/
def State.af (s : State) : Word := mk16 s.a s.f

/-- `BC` (R21). -/
def State.bc (s : State) : Word := mk16 s.b s.c

/-- `DE` (R21). -/
def State.de (s : State) : Word := mk16 s.d s.e

/-- `HL` (R21). -/
def State.hl (s : State) : Word := mk16 s.h s.l

/-- `BC <- v` (R21). -/
def State.setBC (s : State) (v : Word) : State := { s with b := hi8 v, c := lo8 v }

/-- `DE <- v` (R21). -/
def State.setDE (s : State) (v : Word) : State := { s with d := hi8 v, e := lo8 v }

/-- `HL <- v` (R21). -/
def State.setHL (s : State) (v : Word) : State := { s with h := hi8 v, l := lo8 v }

/-- `AF <- v` with the low nibble of `F` kept zero, as `POP AF` writes it (R27, R207). -/
def State.setAF (s : State) (v : Word) : State := { s with a := hi8 v, f := lo8 v &&& 0xF0 }

/-- `r16[p]` (R149). -/
def State.r16 (s : State) (rr : R16) : Word :=
  match rr with
  | .bc => s.bc
  | .de => s.de
  | .hl => s.hl
  | .sp => s.sp

/-- `r16[p] <- v`. -/
def State.setR16 (s : State) (rr : R16) (v : Word) : State :=
  match rr with
  | .bc => s.setBC v
  | .de => s.setDE v
  | .hl => s.setHL v
  | .sp => { s with sp := v }

/-- `r16stk[p]` (R150). -/
def State.r16stk (s : State) (rr : R16Stk) : Word :=
  match rr with
  | .bc => s.bc
  | .de => s.de
  | .hl => s.hl
  | .af => s.af

/-- `r16stk[p] <- v` (R206, R207). -/
def State.setR16stk (s : State) (rr : R16Stk) (v : Word) : State :=
  match rr with
  | .bc => s.setBC v
  | .de => s.setDE v
  | .hl => s.setHL v
  | .af => s.setAF v

/-- `F <- v`, as a whole byte (R28). -/
def State.setF (s : State) (v : Byte) : State := { s with f := v }

/-! ## The indexed operand `r8[i]` (R148, R276) -/

/-- Reads `r8[i]`. -/
def State.loc8 (s : State) (x : Loc8) : Byte :=
  match x with
  | .reg r => s.r8 r
  | .memHL => read s s.hl

/-- `r8[i] <- v`: a register, or `Write(HL, v)`. -/
def State.setLoc8 (s : State) (x : Loc8) (v : Byte) : State :=
  match x with
  | .reg r => s.setR8 r v
  | .memHL => write s.hl v s

/-- The cost of an instruction with a register form and an `(HL)` form. -/
def locCost (x : Loc8) (reg mem : Nat) : Nat :=
  match x with
  | .reg _ => reg
  | .memHL => mem

/-! ## The addressing modes that load and store `A` only (R176 to R190) -/

/-- A pointer operand. -/
inductive Ptr where
  | bc
  | de
  | hlInc
  | hlDec
  | abs (nn : Word)
  | high (n : Byte)
  | highC
  deriving DecidableEq, Repr

/-- The effective address (R190). -/
def State.ptrAddr (s : State) (p : Ptr) : Word :=
  match p with
  | .bc => s.bc
  | .de => s.de
  | .hlInc => s.hl
  | .hlDec => s.hl
  | .abs nn => nn
  | .high n => mk16 0xFF n
  | .highC => mk16 0xFF s.c

/-- The change of `HL` after the access, by exactly 1 (R186 to R189). -/
def State.ptrAfter (s : State) (p : Ptr) : State :=
  match p with
  | .hlInc => s.setHL (s.hl + 1)
  | .hlDec => s.setHL (s.hl - 1)
  | .bc => s
  | .de => s
  | .abs _ => s
  | .high _ => s
  | .highC => s

/-- The cost of a load or store of `A` by its mode (R176 to R189, R480). -/
def ptrCost (p : Ptr) : Nat :=
  match p with
  | .abs _ => 16
  | .high _ => 12
  | .bc => 8
  | .de => 8
  | .hlInc => 8
  | .hlDec => 8
  | .highC => 8

/-! ## The second operand of the accumulator operations (R216) -/

/-- Register, `(HL)` or immediate. -/
inductive AluSrc where
  | loc (x : Loc8)
  | imm (n : Byte)
  deriving DecidableEq, Repr

/-- Its value. -/
def State.aluSrc (s : State) (x : AluSrc) : Byte :=
  match x with
  | .loc x => s.loc8 x
  | .imm n => n

/-- Its cost: 4, 8, 8. -/
def aluCost (x : AluSrc) : Nat :=
  match x with
  | .loc x => locCost x 4 8
  | .imm _ => 8

/-! ## Conditions (R151) -/

/-- Whether a condition holds. -/
def State.cond (s : State) (cc : Cond) : Bool :=
  match cc with
  | .nz => !s.flagZ
  | .z => s.flagZ
  | .nc => !s.flagC
  | .c => s.flagC

end Sys2Proof.Machine
end

