-- ==== Sys2Proof/Machine/Alu16.lean ====
section
/-! DEFINITION. 16-bit arithmetic (spec/43_alu16.md R250 to R254). First the shared operations, then one meaning per row of the table. -/

namespace Sys2Proof.Machine

/-! ## Shared operations -/

/-- `ADD HL,rr`: Z kept, cost 8 (R251). -/
def addToHl (rr : R16) (s : State) : Result :=
  let r := addWords s.hl (s.r16 rr) s.flagZ
  .next (stepClock 8 ((s.setHL r.value).setF r.flags))

/-- `INC rr`: no flags, cost 8 (R252). -/
def incPair (rr : R16) (s : State) : Result := .next (stepClock 8 (s.setR16 rr (s.r16 rr + 1)))

/-- `DEC rr`: no flags, cost 8 (R253). -/
def decPair (rr : R16) (s : State) : Result := .next (stepClock 8 (s.setR16 rr (s.r16 rr - 1)))

/-- `ADD SP,e`: cost 16 (R254). -/
def addOffsetToSp (e : Byte) (s : State) : Result :=
  let r := addSpOffset s.sp e
  .next (stepClock 16 ({ s with sp := r.value }.setF r.flags))

/-! ## One meaning per row of spec/opcode_table.json, in table order; the number after each is its rule -/

/-- `INC BC` (R252) -/
def execInc_BC (s : State) : Result := incPair .bc s
/-- `ADD HL,BC` (R251) -/
def execAdd_HL_BC (s : State) : Result := addToHl .bc s
/-- `DEC BC` (R253) -/
def execDec_BC (s : State) : Result := decPair .bc s
/-- `INC DE` (R252) -/
def execInc_DE (s : State) : Result := incPair .de s
/-- `ADD HL,DE` (R251) -/
def execAdd_HL_DE (s : State) : Result := addToHl .de s
/-- `DEC DE` (R253) -/
def execDec_DE (s : State) : Result := decPair .de s
/-- `INC HL` (R252) -/
def execInc_HL (s : State) : Result := incPair .hl s
/-- `ADD HL,HL` (R251) -/
def execAdd_HL_HL (s : State) : Result := addToHl .hl s
/-- `DEC HL` (R253) -/
def execDec_HL (s : State) : Result := decPair .hl s
/-- `INC SP` (R252) -/
def execInc_SP (s : State) : Result := incPair .sp s
/-- `ADD HL,SP` (R251) -/
def execAdd_HL_SP (s : State) : Result := addToHl .sp s
/-- `DEC SP` (R253) -/
def execDec_SP (s : State) : Result := decPair .sp s
/-- `ADD SP,e` (R254) -/
def execAdd_SP_e (e : Byte) (s : State) : Result := addOffsetToSp e s

end Sys2Proof.Machine
end

