-- ==== Sys2Proof/Machine/Alu8.lean ====
section
/-! DEFINITION. 8-bit arithmetic and logic (spec/42_alu8.md R215 to R233). First the shared operations, then one meaning per row of the table. -/

namespace Sys2Proof.Machine

/-! ## Shared operations -/

/-- An accumulator operation on `A` and `x`; `CP` writes back the old `A` (R216 to R224). -/
def accumulate (op : AluOp) (x : AluSrc) (s : State) : Result :=
  let r := aluOut op s.a (s.aluSrc x) s.flagC
  .next (stepClock (aluCost x) ((s.setR8 .a r.value).setF r.flags))

/-- `INC`: cost 4 on a register, 12 on `(HL)`; flags from the computed value (R225, R226). -/
def incLoc (x : Loc8) (s : State) : Result :=
  let r := incByte (s.loc8 x) s.flagC
  .next (stepClock (locCost x 4 12) ((s.setLoc8 x r.value).setF r.flags))

/-- `DEC`: cost 4 on a register, 12 on `(HL)`; flags from the computed value (R227, R228). -/
def decLoc (x : Loc8) (s : State) : Result :=
  let r := decByte (s.loc8 x) s.flagC
  .next (stepClock (locCost x 4 12) ((s.setLoc8 x r.value).setF r.flags))

/-- `DAA`, cost 4 (R229). -/
def adjustDecimal (s : State) : Result :=
  let r := daaOut s.a s.flagN s.flagH s.flagC
  .next (stepClock 4 ((s.setR8 .a r.value).setF r.flags))

/-- `CPL`: N and H set, Z and C kept, cost 4 (R230). -/
def complementA (s : State) : Result :=
  .next (stepClock 4 ((s.setR8 .a (~~~s.a)).setF (flagByte s.flagZ true true s.flagC)))

/-- `SCF`: C set, N and H clear, Z kept, cost 4 (R231). -/
def setCarry (s : State) : Result := .next (stepClock 4 (s.setF (flagByte s.flagZ false false true)))

/-- `CCF`: C complemented, N and H clear, Z kept, cost 4 (R232). -/
def complementCarry (s : State) : Result := .next (stepClock 4 (s.setF (flagByte s.flagZ false false (!s.flagC))))

/-! ## One meaning per row of spec/opcode_table.json, in table order; the number after each is its rule -/

/-- `INC B` (R225) -/
def execInc_B (s : State) : Result := incLoc (.reg .b) s
/-- `DEC B` (R227) -/
def execDec_B (s : State) : Result := decLoc (.reg .b) s
/-- `INC C` (R225) -/
def execInc_C (s : State) : Result := incLoc (.reg .c) s
/-- `DEC C` (R227) -/
def execDec_C (s : State) : Result := decLoc (.reg .c) s
/-- `INC D` (R225) -/
def execInc_D (s : State) : Result := incLoc (.reg .d) s
/-- `DEC D` (R227) -/
def execDec_D (s : State) : Result := decLoc (.reg .d) s
/-- `INC E` (R225) -/
def execInc_E (s : State) : Result := incLoc (.reg .e) s
/-- `DEC E` (R227) -/
def execDec_E (s : State) : Result := decLoc (.reg .e) s
/-- `INC H` (R225) -/
def execInc_H (s : State) : Result := incLoc (.reg .h) s
/-- `DEC H` (R227) -/
def execDec_H (s : State) : Result := decLoc (.reg .h) s
/-- `DAA` (R229) -/
def execDaa (s : State) : Result := adjustDecimal s
/-- `INC L` (R225) -/
def execInc_L (s : State) : Result := incLoc (.reg .l) s
/-- `DEC L` (R227) -/
def execDec_L (s : State) : Result := decLoc (.reg .l) s
/-- `CPL` (R230) -/
def execCpl (s : State) : Result := complementA s
/-- `INC (HL)` (R226) -/
def execInc_mHL (s : State) : Result := incLoc .memHL s
/-- `DEC (HL)` (R228) -/
def execDec_mHL (s : State) : Result := decLoc .memHL s
/-- `SCF` (R231) -/
def execScf (s : State) : Result := setCarry s
/-- `INC A` (R225) -/
def execInc_A (s : State) : Result := incLoc (.reg .a) s
/-- `DEC A` (R227) -/
def execDec_A (s : State) : Result := decLoc (.reg .a) s
/-- `CCF` (R232) -/
def execCcf (s : State) : Result := complementCarry s
/-- `ADD A,B` (R217) -/
def execAdd_A_B (s : State) : Result := accumulate .add (.loc (.reg .b)) s
/-- `ADD A,C` (R217) -/
def execAdd_A_C (s : State) : Result := accumulate .add (.loc (.reg .c)) s
/-- `ADD A,D` (R217) -/
def execAdd_A_D (s : State) : Result := accumulate .add (.loc (.reg .d)) s
/-- `ADD A,E` (R217) -/
def execAdd_A_E (s : State) : Result := accumulate .add (.loc (.reg .e)) s
/-- `ADD A,H` (R217) -/
def execAdd_A_H (s : State) : Result := accumulate .add (.loc (.reg .h)) s
/-- `ADD A,L` (R217) -/
def execAdd_A_L (s : State) : Result := accumulate .add (.loc (.reg .l)) s
/-- `ADD A,(HL)` (R217) -/
def execAdd_A_mHL (s : State) : Result := accumulate .add (.loc .memHL) s
/-- `ADD A,A` (R217) -/
def execAdd_A_A (s : State) : Result := accumulate .add (.loc (.reg .a)) s
/-- `ADC A,B` (R218) -/
def execAdc_A_B (s : State) : Result := accumulate .adc (.loc (.reg .b)) s
/-- `ADC A,C` (R218) -/
def execAdc_A_C (s : State) : Result := accumulate .adc (.loc (.reg .c)) s
/-- `ADC A,D` (R218) -/
def execAdc_A_D (s : State) : Result := accumulate .adc (.loc (.reg .d)) s
/-- `ADC A,E` (R218) -/
def execAdc_A_E (s : State) : Result := accumulate .adc (.loc (.reg .e)) s
/-- `ADC A,H` (R218) -/
def execAdc_A_H (s : State) : Result := accumulate .adc (.loc (.reg .h)) s
/-- `ADC A,L` (R218) -/
def execAdc_A_L (s : State) : Result := accumulate .adc (.loc (.reg .l)) s
/-- `ADC A,(HL)` (R218) -/
def execAdc_A_mHL (s : State) : Result := accumulate .adc (.loc .memHL) s
/-- `ADC A,A` (R218) -/
def execAdc_A_A (s : State) : Result := accumulate .adc (.loc (.reg .a)) s
/-- `SUB A,B` (R219) -/
def execSub_A_B (s : State) : Result := accumulate .sub (.loc (.reg .b)) s
/-- `SUB A,C` (R219) -/
def execSub_A_C (s : State) : Result := accumulate .sub (.loc (.reg .c)) s
/-- `SUB A,D` (R219) -/
def execSub_A_D (s : State) : Result := accumulate .sub (.loc (.reg .d)) s
/-- `SUB A,E` (R219) -/
def execSub_A_E (s : State) : Result := accumulate .sub (.loc (.reg .e)) s
/-- `SUB A,H` (R219) -/
def execSub_A_H (s : State) : Result := accumulate .sub (.loc (.reg .h)) s
/-- `SUB A,L` (R219) -/
def execSub_A_L (s : State) : Result := accumulate .sub (.loc (.reg .l)) s
/-- `SUB A,(HL)` (R219) -/
def execSub_A_mHL (s : State) : Result := accumulate .sub (.loc .memHL) s
/-- `SUB A,A` (R219) -/
def execSub_A_A (s : State) : Result := accumulate .sub (.loc (.reg .a)) s
/-- `SBC A,B` (R220) -/
def execSbc_A_B (s : State) : Result := accumulate .sbc (.loc (.reg .b)) s
/-- `SBC A,C` (R220) -/
def execSbc_A_C (s : State) : Result := accumulate .sbc (.loc (.reg .c)) s
/-- `SBC A,D` (R220) -/
def execSbc_A_D (s : State) : Result := accumulate .sbc (.loc (.reg .d)) s
/-- `SBC A,E` (R220) -/
def execSbc_A_E (s : State) : Result := accumulate .sbc (.loc (.reg .e)) s
/-- `SBC A,H` (R220) -/
def execSbc_A_H (s : State) : Result := accumulate .sbc (.loc (.reg .h)) s
/-- `SBC A,L` (R220) -/
def execSbc_A_L (s : State) : Result := accumulate .sbc (.loc (.reg .l)) s
/-- `SBC A,(HL)` (R220) -/
def execSbc_A_mHL (s : State) : Result := accumulate .sbc (.loc .memHL) s
/-- `SBC A,A` (R220) -/
def execSbc_A_A (s : State) : Result := accumulate .sbc (.loc (.reg .a)) s
/-- `AND A,B` (R221) -/
def execAnd_A_B (s : State) : Result := accumulate .and (.loc (.reg .b)) s
/-- `AND A,C` (R221) -/
def execAnd_A_C (s : State) : Result := accumulate .and (.loc (.reg .c)) s
/-- `AND A,D` (R221) -/
def execAnd_A_D (s : State) : Result := accumulate .and (.loc (.reg .d)) s
/-- `AND A,E` (R221) -/
def execAnd_A_E (s : State) : Result := accumulate .and (.loc (.reg .e)) s
/-- `AND A,H` (R221) -/
def execAnd_A_H (s : State) : Result := accumulate .and (.loc (.reg .h)) s
/-- `AND A,L` (R221) -/
def execAnd_A_L (s : State) : Result := accumulate .and (.loc (.reg .l)) s
/-- `AND A,(HL)` (R221) -/
def execAnd_A_mHL (s : State) : Result := accumulate .and (.loc .memHL) s
/-- `AND A,A` (R221) -/
def execAnd_A_A (s : State) : Result := accumulate .and (.loc (.reg .a)) s
/-- `XOR A,B` (R222) -/
def execXor_A_B (s : State) : Result := accumulate .xor (.loc (.reg .b)) s
/-- `XOR A,C` (R222) -/
def execXor_A_C (s : State) : Result := accumulate .xor (.loc (.reg .c)) s
/-- `XOR A,D` (R222) -/
def execXor_A_D (s : State) : Result := accumulate .xor (.loc (.reg .d)) s
/-- `XOR A,E` (R222) -/
def execXor_A_E (s : State) : Result := accumulate .xor (.loc (.reg .e)) s
/-- `XOR A,H` (R222) -/
def execXor_A_H (s : State) : Result := accumulate .xor (.loc (.reg .h)) s
/-- `XOR A,L` (R222) -/
def execXor_A_L (s : State) : Result := accumulate .xor (.loc (.reg .l)) s
/-- `XOR A,(HL)` (R222) -/
def execXor_A_mHL (s : State) : Result := accumulate .xor (.loc .memHL) s
/-- `XOR A,A` (R222) -/
def execXor_A_A (s : State) : Result := accumulate .xor (.loc (.reg .a)) s
/-- `OR A,B` (R223) -/
def execOr_A_B (s : State) : Result := accumulate .or (.loc (.reg .b)) s
/-- `OR A,C` (R223) -/
def execOr_A_C (s : State) : Result := accumulate .or (.loc (.reg .c)) s
/-- `OR A,D` (R223) -/
def execOr_A_D (s : State) : Result := accumulate .or (.loc (.reg .d)) s
/-- `OR A,E` (R223) -/
def execOr_A_E (s : State) : Result := accumulate .or (.loc (.reg .e)) s
/-- `OR A,H` (R223) -/
def execOr_A_H (s : State) : Result := accumulate .or (.loc (.reg .h)) s
/-- `OR A,L` (R223) -/
def execOr_A_L (s : State) : Result := accumulate .or (.loc (.reg .l)) s
/-- `OR A,(HL)` (R223) -/
def execOr_A_mHL (s : State) : Result := accumulate .or (.loc .memHL) s
/-- `OR A,A` (R223) -/
def execOr_A_A (s : State) : Result := accumulate .or (.loc (.reg .a)) s
/-- `CP A,B` (R224) -/
def execCp_A_B (s : State) : Result := accumulate .cp (.loc (.reg .b)) s
/-- `CP A,C` (R224) -/
def execCp_A_C (s : State) : Result := accumulate .cp (.loc (.reg .c)) s
/-- `CP A,D` (R224) -/
def execCp_A_D (s : State) : Result := accumulate .cp (.loc (.reg .d)) s
/-- `CP A,E` (R224) -/
def execCp_A_E (s : State) : Result := accumulate .cp (.loc (.reg .e)) s
/-- `CP A,H` (R224) -/
def execCp_A_H (s : State) : Result := accumulate .cp (.loc (.reg .h)) s
/-- `CP A,L` (R224) -/
def execCp_A_L (s : State) : Result := accumulate .cp (.loc (.reg .l)) s
/-- `CP A,(HL)` (R224) -/
def execCp_A_mHL (s : State) : Result := accumulate .cp (.loc .memHL) s
/-- `CP A,A` (R224) -/
def execCp_A_A (s : State) : Result := accumulate .cp (.loc (.reg .a)) s
/-- `ADD A,n` (R217) -/
def execAdd_A_n (n : Byte) (s : State) : Result := accumulate .add (.imm n) s
/-- `ADC A,n` (R218) -/
def execAdc_A_n (n : Byte) (s : State) : Result := accumulate .adc (.imm n) s
/-- `SUB A,n` (R219) -/
def execSub_A_n (n : Byte) (s : State) : Result := accumulate .sub (.imm n) s
/-- `SBC A,n` (R220) -/
def execSbc_A_n (n : Byte) (s : State) : Result := accumulate .sbc (.imm n) s
/-- `AND A,n` (R221) -/
def execAnd_A_n (n : Byte) (s : State) : Result := accumulate .and (.imm n) s
/-- `XOR A,n` (R222) -/
def execXor_A_n (n : Byte) (s : State) : Result := accumulate .xor (.imm n) s
/-- `OR A,n` (R223) -/
def execOr_A_n (n : Byte) (s : State) : Result := accumulate .or (.imm n) s
/-- `CP A,n` (R224) -/
def execCp_A_n (n : Byte) (s : State) : Result := accumulate .cp (.imm n) s

end Sys2Proof.Machine
end

