-- ==== Sys2Proof/Machine/BitOps.lean ====
section
/-! DEFINITION. Bit test, reset and set (spec/44_rotate_shift_bit.md R273 to R276). First the shared operations, then one meaning per row of the table. -/

namespace Sys2Proof.Machine

/-! ## Shared operations -/

/-- `BIT b,x`: only flags; cost 8, or 12 on `(HL)` (R273). -/
def testBit (b : Fin 8) (x : Loc8) (s : State) : Result :=
  .next (stepClock (locCost x 8 12) (s.setF (bitFlags b (s.loc8 x) s.flagC)))

/-- `RES b,x`: no flags; cost 8, or 16 on `(HL)` (R274, R276). -/
def clearBit (b : Fin 8) (x : Loc8) (s : State) : Result :=
  .next (stepClock (locCost x 8 16) (s.setLoc8 x (resetBit b (s.loc8 x))))

/-- `SET b,x`: no flags; cost 8, or 16 on `(HL)` (R275, R276). -/
def assignBit (b : Fin 8) (x : Loc8) (s : State) : Result :=
  .next (stepClock (locCost x 8 16) (s.setLoc8 x (setBit b (s.loc8 x))))

/-! ## One meaning per row of spec/opcode_table.json, in table order; the number after each is its rule -/

/-- `BIT 0,B` (R273) -/
def execBit_0_B (s : State) : Result := testBit 0 (.reg .b) s
/-- `BIT 0,C` (R273) -/
def execBit_0_C (s : State) : Result := testBit 0 (.reg .c) s
/-- `BIT 0,D` (R273) -/
def execBit_0_D (s : State) : Result := testBit 0 (.reg .d) s
/-- `BIT 0,E` (R273) -/
def execBit_0_E (s : State) : Result := testBit 0 (.reg .e) s
/-- `BIT 0,H` (R273) -/
def execBit_0_H (s : State) : Result := testBit 0 (.reg .h) s
/-- `BIT 0,L` (R273) -/
def execBit_0_L (s : State) : Result := testBit 0 (.reg .l) s
/-- `BIT 0,(HL)` (R273) -/
def execBit_0_mHL (s : State) : Result := testBit 0 .memHL s
/-- `BIT 0,A` (R273) -/
def execBit_0_A (s : State) : Result := testBit 0 (.reg .a) s
/-- `BIT 1,B` (R273) -/
def execBit_1_B (s : State) : Result := testBit 1 (.reg .b) s
/-- `BIT 1,C` (R273) -/
def execBit_1_C (s : State) : Result := testBit 1 (.reg .c) s
/-- `BIT 1,D` (R273) -/
def execBit_1_D (s : State) : Result := testBit 1 (.reg .d) s
/-- `BIT 1,E` (R273) -/
def execBit_1_E (s : State) : Result := testBit 1 (.reg .e) s
/-- `BIT 1,H` (R273) -/
def execBit_1_H (s : State) : Result := testBit 1 (.reg .h) s
/-- `BIT 1,L` (R273) -/
def execBit_1_L (s : State) : Result := testBit 1 (.reg .l) s
/-- `BIT 1,(HL)` (R273) -/
def execBit_1_mHL (s : State) : Result := testBit 1 .memHL s
/-- `BIT 1,A` (R273) -/
def execBit_1_A (s : State) : Result := testBit 1 (.reg .a) s
/-- `BIT 2,B` (R273) -/
def execBit_2_B (s : State) : Result := testBit 2 (.reg .b) s
/-- `BIT 2,C` (R273) -/
def execBit_2_C (s : State) : Result := testBit 2 (.reg .c) s
/-- `BIT 2,D` (R273) -/
def execBit_2_D (s : State) : Result := testBit 2 (.reg .d) s
/-- `BIT 2,E` (R273) -/
def execBit_2_E (s : State) : Result := testBit 2 (.reg .e) s
/-- `BIT 2,H` (R273) -/
def execBit_2_H (s : State) : Result := testBit 2 (.reg .h) s
/-- `BIT 2,L` (R273) -/
def execBit_2_L (s : State) : Result := testBit 2 (.reg .l) s
/-- `BIT 2,(HL)` (R273) -/
def execBit_2_mHL (s : State) : Result := testBit 2 .memHL s
/-- `BIT 2,A` (R273) -/
def execBit_2_A (s : State) : Result := testBit 2 (.reg .a) s
/-- `BIT 3,B` (R273) -/
def execBit_3_B (s : State) : Result := testBit 3 (.reg .b) s
/-- `BIT 3,C` (R273) -/
def execBit_3_C (s : State) : Result := testBit 3 (.reg .c) s
/-- `BIT 3,D` (R273) -/
def execBit_3_D (s : State) : Result := testBit 3 (.reg .d) s
/-- `BIT 3,E` (R273) -/
def execBit_3_E (s : State) : Result := testBit 3 (.reg .e) s
/-- `BIT 3,H` (R273) -/
def execBit_3_H (s : State) : Result := testBit 3 (.reg .h) s
/-- `BIT 3,L` (R273) -/
def execBit_3_L (s : State) : Result := testBit 3 (.reg .l) s
/-- `BIT 3,(HL)` (R273) -/
def execBit_3_mHL (s : State) : Result := testBit 3 .memHL s
/-- `BIT 3,A` (R273) -/
def execBit_3_A (s : State) : Result := testBit 3 (.reg .a) s
/-- `BIT 4,B` (R273) -/
def execBit_4_B (s : State) : Result := testBit 4 (.reg .b) s
/-- `BIT 4,C` (R273) -/
def execBit_4_C (s : State) : Result := testBit 4 (.reg .c) s
/-- `BIT 4,D` (R273) -/
def execBit_4_D (s : State) : Result := testBit 4 (.reg .d) s
/-- `BIT 4,E` (R273) -/
def execBit_4_E (s : State) : Result := testBit 4 (.reg .e) s
/-- `BIT 4,H` (R273) -/
def execBit_4_H (s : State) : Result := testBit 4 (.reg .h) s
/-- `BIT 4,L` (R273) -/
def execBit_4_L (s : State) : Result := testBit 4 (.reg .l) s
/-- `BIT 4,(HL)` (R273) -/
def execBit_4_mHL (s : State) : Result := testBit 4 .memHL s
/-- `BIT 4,A` (R273) -/
def execBit_4_A (s : State) : Result := testBit 4 (.reg .a) s
/-- `BIT 5,B` (R273) -/
def execBit_5_B (s : State) : Result := testBit 5 (.reg .b) s
/-- `BIT 5,C` (R273) -/
def execBit_5_C (s : State) : Result := testBit 5 (.reg .c) s
/-- `BIT 5,D` (R273) -/
def execBit_5_D (s : State) : Result := testBit 5 (.reg .d) s
/-- `BIT 5,E` (R273) -/
def execBit_5_E (s : State) : Result := testBit 5 (.reg .e) s
/-- `BIT 5,H` (R273) -/
def execBit_5_H (s : State) : Result := testBit 5 (.reg .h) s
/-- `BIT 5,L` (R273) -/
def execBit_5_L (s : State) : Result := testBit 5 (.reg .l) s
/-- `BIT 5,(HL)` (R273) -/
def execBit_5_mHL (s : State) : Result := testBit 5 .memHL s
/-- `BIT 5,A` (R273) -/
def execBit_5_A (s : State) : Result := testBit 5 (.reg .a) s
/-- `BIT 6,B` (R273) -/
def execBit_6_B (s : State) : Result := testBit 6 (.reg .b) s
/-- `BIT 6,C` (R273) -/
def execBit_6_C (s : State) : Result := testBit 6 (.reg .c) s
/-- `BIT 6,D` (R273) -/
def execBit_6_D (s : State) : Result := testBit 6 (.reg .d) s
/-- `BIT 6,E` (R273) -/
def execBit_6_E (s : State) : Result := testBit 6 (.reg .e) s
/-- `BIT 6,H` (R273) -/
def execBit_6_H (s : State) : Result := testBit 6 (.reg .h) s
/-- `BIT 6,L` (R273) -/
def execBit_6_L (s : State) : Result := testBit 6 (.reg .l) s
/-- `BIT 6,(HL)` (R273) -/
def execBit_6_mHL (s : State) : Result := testBit 6 .memHL s
/-- `BIT 6,A` (R273) -/
def execBit_6_A (s : State) : Result := testBit 6 (.reg .a) s
/-- `BIT 7,B` (R273) -/
def execBit_7_B (s : State) : Result := testBit 7 (.reg .b) s
/-- `BIT 7,C` (R273) -/
def execBit_7_C (s : State) : Result := testBit 7 (.reg .c) s
/-- `BIT 7,D` (R273) -/
def execBit_7_D (s : State) : Result := testBit 7 (.reg .d) s
/-- `BIT 7,E` (R273) -/
def execBit_7_E (s : State) : Result := testBit 7 (.reg .e) s
/-- `BIT 7,H` (R273) -/
def execBit_7_H (s : State) : Result := testBit 7 (.reg .h) s
/-- `BIT 7,L` (R273) -/
def execBit_7_L (s : State) : Result := testBit 7 (.reg .l) s
/-- `BIT 7,(HL)` (R273) -/
def execBit_7_mHL (s : State) : Result := testBit 7 .memHL s
/-- `BIT 7,A` (R273) -/
def execBit_7_A (s : State) : Result := testBit 7 (.reg .a) s
/-- `RES 0,B` (R274) -/
def execRes_0_B (s : State) : Result := clearBit 0 (.reg .b) s
/-- `RES 0,C` (R274) -/
def execRes_0_C (s : State) : Result := clearBit 0 (.reg .c) s
/-- `RES 0,D` (R274) -/
def execRes_0_D (s : State) : Result := clearBit 0 (.reg .d) s
/-- `RES 0,E` (R274) -/
def execRes_0_E (s : State) : Result := clearBit 0 (.reg .e) s
/-- `RES 0,H` (R274) -/
def execRes_0_H (s : State) : Result := clearBit 0 (.reg .h) s
/-- `RES 0,L` (R274) -/
def execRes_0_L (s : State) : Result := clearBit 0 (.reg .l) s
/-- `RES 0,(HL)` (R274) -/
def execRes_0_mHL (s : State) : Result := clearBit 0 .memHL s
/-- `RES 0,A` (R274) -/
def execRes_0_A (s : State) : Result := clearBit 0 (.reg .a) s
/-- `RES 1,B` (R274) -/
def execRes_1_B (s : State) : Result := clearBit 1 (.reg .b) s
/-- `RES 1,C` (R274) -/
def execRes_1_C (s : State) : Result := clearBit 1 (.reg .c) s
/-- `RES 1,D` (R274) -/
def execRes_1_D (s : State) : Result := clearBit 1 (.reg .d) s
/-- `RES 1,E` (R274) -/
def execRes_1_E (s : State) : Result := clearBit 1 (.reg .e) s
/-- `RES 1,H` (R274) -/
def execRes_1_H (s : State) : Result := clearBit 1 (.reg .h) s
/-- `RES 1,L` (R274) -/
def execRes_1_L (s : State) : Result := clearBit 1 (.reg .l) s
/-- `RES 1,(HL)` (R274) -/
def execRes_1_mHL (s : State) : Result := clearBit 1 .memHL s
/-- `RES 1,A` (R274) -/
def execRes_1_A (s : State) : Result := clearBit 1 (.reg .a) s
/-- `RES 2,B` (R274) -/
def execRes_2_B (s : State) : Result := clearBit 2 (.reg .b) s
/-- `RES 2,C` (R274) -/
def execRes_2_C (s : State) : Result := clearBit 2 (.reg .c) s
/-- `RES 2,D` (R274) -/
def execRes_2_D (s : State) : Result := clearBit 2 (.reg .d) s
/-- `RES 2,E` (R274) -/
def execRes_2_E (s : State) : Result := clearBit 2 (.reg .e) s
/-- `RES 2,H` (R274) -/
def execRes_2_H (s : State) : Result := clearBit 2 (.reg .h) s
/-- `RES 2,L` (R274) -/
def execRes_2_L (s : State) : Result := clearBit 2 (.reg .l) s
/-- `RES 2,(HL)` (R274) -/
def execRes_2_mHL (s : State) : Result := clearBit 2 .memHL s
/-- `RES 2,A` (R274) -/
def execRes_2_A (s : State) : Result := clearBit 2 (.reg .a) s
/-- `RES 3,B` (R274) -/
def execRes_3_B (s : State) : Result := clearBit 3 (.reg .b) s
/-- `RES 3,C` (R274) -/
def execRes_3_C (s : State) : Result := clearBit 3 (.reg .c) s
/-- `RES 3,D` (R274) -/
def execRes_3_D (s : State) : Result := clearBit 3 (.reg .d) s
/-- `RES 3,E` (R274) -/
def execRes_3_E (s : State) : Result := clearBit 3 (.reg .e) s
/-- `RES 3,H` (R274) -/
def execRes_3_H (s : State) : Result := clearBit 3 (.reg .h) s
/-- `RES 3,L` (R274) -/
def execRes_3_L (s : State) : Result := clearBit 3 (.reg .l) s
/-- `RES 3,(HL)` (R274) -/
def execRes_3_mHL (s : State) : Result := clearBit 3 .memHL s
/-- `RES 3,A` (R274) -/
def execRes_3_A (s : State) : Result := clearBit 3 (.reg .a) s
/-- `RES 4,B` (R274) -/
def execRes_4_B (s : State) : Result := clearBit 4 (.reg .b) s
/-- `RES 4,C` (R274) -/
def execRes_4_C (s : State) : Result := clearBit 4 (.reg .c) s
/-- `RES 4,D` (R274) -/
def execRes_4_D (s : State) : Result := clearBit 4 (.reg .d) s
/-- `RES 4,E` (R274) -/
def execRes_4_E (s : State) : Result := clearBit 4 (.reg .e) s
/-- `RES 4,H` (R274) -/
def execRes_4_H (s : State) : Result := clearBit 4 (.reg .h) s
/-- `RES 4,L` (R274) -/
def execRes_4_L (s : State) : Result := clearBit 4 (.reg .l) s
/-- `RES 4,(HL)` (R274) -/
def execRes_4_mHL (s : State) : Result := clearBit 4 .memHL s
/-- `RES 4,A` (R274) -/
def execRes_4_A (s : State) : Result := clearBit 4 (.reg .a) s
/-- `RES 5,B` (R274) -/
def execRes_5_B (s : State) : Result := clearBit 5 (.reg .b) s
/-- `RES 5,C` (R274) -/
def execRes_5_C (s : State) : Result := clearBit 5 (.reg .c) s
/-- `RES 5,D` (R274) -/
def execRes_5_D (s : State) : Result := clearBit 5 (.reg .d) s
/-- `RES 5,E` (R274) -/
def execRes_5_E (s : State) : Result := clearBit 5 (.reg .e) s
/-- `RES 5,H` (R274) -/
def execRes_5_H (s : State) : Result := clearBit 5 (.reg .h) s
/-- `RES 5,L` (R274) -/
def execRes_5_L (s : State) : Result := clearBit 5 (.reg .l) s
/-- `RES 5,(HL)` (R274) -/
def execRes_5_mHL (s : State) : Result := clearBit 5 .memHL s
/-- `RES 5,A` (R274) -/
def execRes_5_A (s : State) : Result := clearBit 5 (.reg .a) s
/-- `RES 6,B` (R274) -/
def execRes_6_B (s : State) : Result := clearBit 6 (.reg .b) s
/-- `RES 6,C` (R274) -/
def execRes_6_C (s : State) : Result := clearBit 6 (.reg .c) s
/-- `RES 6,D` (R274) -/
def execRes_6_D (s : State) : Result := clearBit 6 (.reg .d) s
/-- `RES 6,E` (R274) -/
def execRes_6_E (s : State) : Result := clearBit 6 (.reg .e) s
/-- `RES 6,H` (R274) -/
def execRes_6_H (s : State) : Result := clearBit 6 (.reg .h) s
/-- `RES 6,L` (R274) -/
def execRes_6_L (s : State) : Result := clearBit 6 (.reg .l) s
/-- `RES 6,(HL)` (R274) -/
def execRes_6_mHL (s : State) : Result := clearBit 6 .memHL s
/-- `RES 6,A` (R274) -/
def execRes_6_A (s : State) : Result := clearBit 6 (.reg .a) s
/-- `RES 7,B` (R274) -/
def execRes_7_B (s : State) : Result := clearBit 7 (.reg .b) s
/-- `RES 7,C` (R274) -/
def execRes_7_C (s : State) : Result := clearBit 7 (.reg .c) s
/-- `RES 7,D` (R274) -/
def execRes_7_D (s : State) : Result := clearBit 7 (.reg .d) s
/-- `RES 7,E` (R274) -/
def execRes_7_E (s : State) : Result := clearBit 7 (.reg .e) s
/-- `RES 7,H` (R274) -/
def execRes_7_H (s : State) : Result := clearBit 7 (.reg .h) s
/-- `RES 7,L` (R274) -/
def execRes_7_L (s : State) : Result := clearBit 7 (.reg .l) s
/-- `RES 7,(HL)` (R274) -/
def execRes_7_mHL (s : State) : Result := clearBit 7 .memHL s
/-- `RES 7,A` (R274) -/
def execRes_7_A (s : State) : Result := clearBit 7 (.reg .a) s
/-- `SET 0,B` (R275) -/
def execSet_0_B (s : State) : Result := assignBit 0 (.reg .b) s
/-- `SET 0,C` (R275) -/
def execSet_0_C (s : State) : Result := assignBit 0 (.reg .c) s
/-- `SET 0,D` (R275) -/
def execSet_0_D (s : State) : Result := assignBit 0 (.reg .d) s
/-- `SET 0,E` (R275) -/
def execSet_0_E (s : State) : Result := assignBit 0 (.reg .e) s
/-- `SET 0,H` (R275) -/
def execSet_0_H (s : State) : Result := assignBit 0 (.reg .h) s
/-- `SET 0,L` (R275) -/
def execSet_0_L (s : State) : Result := assignBit 0 (.reg .l) s
/-- `SET 0,(HL)` (R275) -/
def execSet_0_mHL (s : State) : Result := assignBit 0 .memHL s
/-- `SET 0,A` (R275) -/
def execSet_0_A (s : State) : Result := assignBit 0 (.reg .a) s
/-- `SET 1,B` (R275) -/
def execSet_1_B (s : State) : Result := assignBit 1 (.reg .b) s
/-- `SET 1,C` (R275) -/
def execSet_1_C (s : State) : Result := assignBit 1 (.reg .c) s
/-- `SET 1,D` (R275) -/
def execSet_1_D (s : State) : Result := assignBit 1 (.reg .d) s
/-- `SET 1,E` (R275) -/
def execSet_1_E (s : State) : Result := assignBit 1 (.reg .e) s
/-- `SET 1,H` (R275) -/
def execSet_1_H (s : State) : Result := assignBit 1 (.reg .h) s
/-- `SET 1,L` (R275) -/
def execSet_1_L (s : State) : Result := assignBit 1 (.reg .l) s
/-- `SET 1,(HL)` (R275) -/
def execSet_1_mHL (s : State) : Result := assignBit 1 .memHL s
/-- `SET 1,A` (R275) -/
def execSet_1_A (s : State) : Result := assignBit 1 (.reg .a) s
/-- `SET 2,B` (R275) -/
def execSet_2_B (s : State) : Result := assignBit 2 (.reg .b) s
/-- `SET 2,C` (R275) -/
def execSet_2_C (s : State) : Result := assignBit 2 (.reg .c) s
/-- `SET 2,D` (R275) -/
def execSet_2_D (s : State) : Result := assignBit 2 (.reg .d) s
/-- `SET 2,E` (R275) -/
def execSet_2_E (s : State) : Result := assignBit 2 (.reg .e) s
/-- `SET 2,H` (R275) -/
def execSet_2_H (s : State) : Result := assignBit 2 (.reg .h) s
/-- `SET 2,L` (R275) -/
def execSet_2_L (s : State) : Result := assignBit 2 (.reg .l) s
/-- `SET 2,(HL)` (R275) -/
def execSet_2_mHL (s : State) : Result := assignBit 2 .memHL s
/-- `SET 2,A` (R275) -/
def execSet_2_A (s : State) : Result := assignBit 2 (.reg .a) s
/-- `SET 3,B` (R275) -/
def execSet_3_B (s : State) : Result := assignBit 3 (.reg .b) s
/-- `SET 3,C` (R275) -/
def execSet_3_C (s : State) : Result := assignBit 3 (.reg .c) s
/-- `SET 3,D` (R275) -/
def execSet_3_D (s : State) : Result := assignBit 3 (.reg .d) s
/-- `SET 3,E` (R275) -/
def execSet_3_E (s : State) : Result := assignBit 3 (.reg .e) s
/-- `SET 3,H` (R275) -/
def execSet_3_H (s : State) : Result := assignBit 3 (.reg .h) s
/-- `SET 3,L` (R275) -/
def execSet_3_L (s : State) : Result := assignBit 3 (.reg .l) s
/-- `SET 3,(HL)` (R275) -/
def execSet_3_mHL (s : State) : Result := assignBit 3 .memHL s
/-- `SET 3,A` (R275) -/
def execSet_3_A (s : State) : Result := assignBit 3 (.reg .a) s
/-- `SET 4,B` (R275) -/
def execSet_4_B (s : State) : Result := assignBit 4 (.reg .b) s
/-- `SET 4,C` (R275) -/
def execSet_4_C (s : State) : Result := assignBit 4 (.reg .c) s
/-- `SET 4,D` (R275) -/
def execSet_4_D (s : State) : Result := assignBit 4 (.reg .d) s
/-- `SET 4,E` (R275) -/
def execSet_4_E (s : State) : Result := assignBit 4 (.reg .e) s
/-- `SET 4,H` (R275) -/
def execSet_4_H (s : State) : Result := assignBit 4 (.reg .h) s
/-- `SET 4,L` (R275) -/
def execSet_4_L (s : State) : Result := assignBit 4 (.reg .l) s
/-- `SET 4,(HL)` (R275) -/
def execSet_4_mHL (s : State) : Result := assignBit 4 .memHL s
/-- `SET 4,A` (R275) -/
def execSet_4_A (s : State) : Result := assignBit 4 (.reg .a) s
/-- `SET 5,B` (R275) -/
def execSet_5_B (s : State) : Result := assignBit 5 (.reg .b) s
/-- `SET 5,C` (R275) -/
def execSet_5_C (s : State) : Result := assignBit 5 (.reg .c) s
/-- `SET 5,D` (R275) -/
def execSet_5_D (s : State) : Result := assignBit 5 (.reg .d) s
/-- `SET 5,E` (R275) -/
def execSet_5_E (s : State) : Result := assignBit 5 (.reg .e) s
/-- `SET 5,H` (R275) -/
def execSet_5_H (s : State) : Result := assignBit 5 (.reg .h) s
/-- `SET 5,L` (R275) -/
def execSet_5_L (s : State) : Result := assignBit 5 (.reg .l) s
/-- `SET 5,(HL)` (R275) -/
def execSet_5_mHL (s : State) : Result := assignBit 5 .memHL s
/-- `SET 5,A` (R275) -/
def execSet_5_A (s : State) : Result := assignBit 5 (.reg .a) s
/-- `SET 6,B` (R275) -/
def execSet_6_B (s : State) : Result := assignBit 6 (.reg .b) s
/-- `SET 6,C` (R275) -/
def execSet_6_C (s : State) : Result := assignBit 6 (.reg .c) s
/-- `SET 6,D` (R275) -/
def execSet_6_D (s : State) : Result := assignBit 6 (.reg .d) s
/-- `SET 6,E` (R275) -/
def execSet_6_E (s : State) : Result := assignBit 6 (.reg .e) s
/-- `SET 6,H` (R275) -/
def execSet_6_H (s : State) : Result := assignBit 6 (.reg .h) s
/-- `SET 6,L` (R275) -/
def execSet_6_L (s : State) : Result := assignBit 6 (.reg .l) s
/-- `SET 6,(HL)` (R275) -/
def execSet_6_mHL (s : State) : Result := assignBit 6 .memHL s
/-- `SET 6,A` (R275) -/
def execSet_6_A (s : State) : Result := assignBit 6 (.reg .a) s
/-- `SET 7,B` (R275) -/
def execSet_7_B (s : State) : Result := assignBit 7 (.reg .b) s
/-- `SET 7,C` (R275) -/
def execSet_7_C (s : State) : Result := assignBit 7 (.reg .c) s
/-- `SET 7,D` (R275) -/
def execSet_7_D (s : State) : Result := assignBit 7 (.reg .d) s
/-- `SET 7,E` (R275) -/
def execSet_7_E (s : State) : Result := assignBit 7 (.reg .e) s
/-- `SET 7,H` (R275) -/
def execSet_7_H (s : State) : Result := assignBit 7 (.reg .h) s
/-- `SET 7,L` (R275) -/
def execSet_7_L (s : State) : Result := assignBit 7 (.reg .l) s
/-- `SET 7,(HL)` (R275) -/
def execSet_7_mHL (s : State) : Result := assignBit 7 .memHL s
/-- `SET 7,A` (R275) -/
def execSet_7_A (s : State) : Result := assignBit 7 (.reg .a) s

end Sys2Proof.Machine
end

