-- ==== Sys2Proof/Machine/Control.lean ====
section
/-! DEFINITION. Control transfer (spec/45_control.md R290 to R302). `PC` already holds the address of the next sequential
instruction when a meaning runs (R25, R290). No control transfer writes `F`. First the shared operations, then one meaning per row of the table. -/

namespace Sys2Proof.Machine

/-! ## Shared operations -/

/-- `PC <- nn`, cost 16 (R291). -/
def jump (nn : Word) (s : State) : Result := .next (stepClock 16 { s with pc := nn })

/-- `JP cc,nn`: cost 16 taken, 12 not (R292). -/
def jumpIf (cc : Cond) (nn : Word) (s : State) : Result :=
  if s.cond cc then .next (stepClock 16 { s with pc := nn }) else .next (stepClock 12 s)

/-- `PC <- HL`, cost 4, no memory access (R293). -/
def jumpHl (s : State) : Result := .next (stepClock 4 { s with pc := s.hl })

/-- `PC <- PC + e`, cost 12 (R294). -/
def jumpRel (e : Byte) (s : State) : Result := .next (stepClock 12 { s with pc := s.pc + sext16 e })

/-- `JR cc,e`: cost 12 taken, 8 not (R295). -/
def jumpRelIf (cc : Cond) (e : Byte) (s : State) : Result :=
  if s.cond cc then .next (stepClock 12 { s with pc := s.pc + sext16 e }) else .next (stepClock 8 s)

/-- Pushes `PC` and goes to `target`: what `CALL` and `RST` do (R296, R301). -/
def callTo (target : Word) (s : State) : State := { push s.pc s with pc := target }

/-- `CALL nn`, cost 24 (R296). -/
def call (nn : Word) (s : State) : Result := .next (stepClock 24 (callTo nn s))

/-- `CALL cc,nn`: cost 24 taken, 12 not, with no stack access (R297). -/
def callIf (cc : Cond) (nn : Word) (s : State) : Result :=
  if s.cond cc then .next (stepClock 24 (callTo nn s)) else .next (stepClock 12 s)

/-- `RET`, cost 16 (R298). -/
def ret (s : State) : Result := .next (stepClock 16 (popPc s))

/-- `RET cc`: cost 20 taken, 8 not (R299). -/
def retIf (cc : Cond) (s : State) : Result :=
  if s.cond cc then .next (stepClock 20 (popPc s)) else .next (stepClock 8 s)

/-- `RETI`, cost 16 (R300). -/
def retInterrupt (s : State) : Result := .next (stepClock 16 (returnFromInterrupt s))

/-- `RST t`, cost 16 (R301). -/
def restart (t : Byte) (s : State) : Result := .next (stepClock 16 (callTo (mk16 0 t) s))

/-! ## One meaning per row of spec/opcode_table.json, in table order; the number after each is its rule -/

/-- `JR e` (R294) -/
def execJr_e (e : Byte) (s : State) : Result := jumpRel e s
/-- `JR NZ,e` (R295) -/
def execJr_NZ_e (e : Byte) (s : State) : Result := jumpRelIf .nz e s
/-- `JR Z,e` (R295) -/
def execJr_Z_e (e : Byte) (s : State) : Result := jumpRelIf .z e s
/-- `JR NC,e` (R295) -/
def execJr_NC_e (e : Byte) (s : State) : Result := jumpRelIf .nc e s
/-- `JR C,e` (R295) -/
def execJr_C_e (e : Byte) (s : State) : Result := jumpRelIf .c e s
/-- `RET NZ` (R299) -/
def execRet_NZ (s : State) : Result := retIf .nz s
/-- `JP NZ,nn` (R292) -/
def execJp_NZ_nn (nn : Word) (s : State) : Result := jumpIf .nz nn s
/-- `JP nn` (R291) -/
def execJp_nn (nn : Word) (s : State) : Result := jump nn s
/-- `CALL NZ,nn` (R297) -/
def execCall_NZ_nn (nn : Word) (s : State) : Result := callIf .nz nn s
/-- `RST 0x00` (R301) -/
def execRst_00 (s : State) : Result := restart 0x00 s
/-- `RET Z` (R299) -/
def execRet_Z (s : State) : Result := retIf .z s
/-- `RET` (R298) -/
def execRet (s : State) : Result := ret s
/-- `JP Z,nn` (R292) -/
def execJp_Z_nn (nn : Word) (s : State) : Result := jumpIf .z nn s
/-- `CALL Z,nn` (R297) -/
def execCall_Z_nn (nn : Word) (s : State) : Result := callIf .z nn s
/-- `CALL nn` (R296) -/
def execCall_nn (nn : Word) (s : State) : Result := call nn s
/-- `RST 0x08` (R301) -/
def execRst_08 (s : State) : Result := restart 0x08 s
/-- `RET NC` (R299) -/
def execRet_NC (s : State) : Result := retIf .nc s
/-- `JP NC,nn` (R292) -/
def execJp_NC_nn (nn : Word) (s : State) : Result := jumpIf .nc nn s
/-- `CALL NC,nn` (R297) -/
def execCall_NC_nn (nn : Word) (s : State) : Result := callIf .nc nn s
/-- `RST 0x10` (R301) -/
def execRst_10 (s : State) : Result := restart 0x10 s
/-- `RET C` (R299) -/
def execRet_C (s : State) : Result := retIf .c s
/-- `RETI` (R300) -/
def execReti (s : State) : Result := retInterrupt s
/-- `JP C,nn` (R292) -/
def execJp_C_nn (nn : Word) (s : State) : Result := jumpIf .c nn s
/-- `CALL C,nn` (R297) -/
def execCall_C_nn (nn : Word) (s : State) : Result := callIf .c nn s
/-- `RST 0x18` (R301) -/
def execRst_18 (s : State) : Result := restart 0x18 s
/-- `RST 0x20` (R301) -/
def execRst_20 (s : State) : Result := restart 0x20 s
/-- `JP HL` (R293) -/
def execJp_HL (s : State) : Result := jumpHl s
/-- `RST 0x28` (R301) -/
def execRst_28 (s : State) : Result := restart 0x28 s
/-- `RST 0x30` (R301) -/
def execRst_30 (s : State) : Result := restart 0x30 s
/-- `RST 0x38` (R301) -/
def execRst_38 (s : State) : Result := restart 0x38 s

end Sys2Proof.Machine
end

