-- ==== Sys2Proof/Machine/Load16.lean ====
section
/-! DEFINITION. The 16-bit loads, push and pop (spec/41_load16.md R200 to R207). First the shared operations, then one meaning per row of the table. -/

namespace Sys2Proof.Machine

/-! ## Shared operations -/

/-- `r16[p] <- nn`, cost 12 (R201). -/
def loadPair (rr : R16) (nn : Word) (s : State) : Result := .next (stepClock 12 (s.setR16 rr nn))

/-- `Write16(nn, SP)`, cost 20 (R202). -/
def storeSp (nn : Word) (s : State) : Result := .next (stepClock 20 (write16 nn s.sp s))

/-- `SP <- HL`, cost 8 (R203). -/
def copyHlToSp (s : State) : Result := .next (stepClock 8 { s with sp := s.hl })

/-- `HL <- SP + e` with the flags of the SP-relative add; `SP` kept; cost 12 (R204). -/
def loadSpOffset (e : Byte) (s : State) : Result :=
  let r := addSpOffset s.sp e
  .next (stepClock 12 ((s.setHL r.value).setF r.flags))

/-- `PUSH rr`, cost 16 (R205). -/
def pushPair (rr : R16Stk) (s : State) : Result := .next (stepClock 16 (push (s.r16stk rr) s))

/-- `POP rr`, cost 12; `POP AF` clears the low nibble of `F` (R206, R207). -/
def popPair (rr : R16Stk) (s : State) : Result :=
  .next (stepClock 12 ((dropWord s).setR16stk rr (read16 s s.sp)))

/-! ## One meaning per row of spec/opcode_table.json, in table order; the number after each is its rule -/

/-- `LD BC,nn` (R201) -/
def execLd_BC_nn (nn : Word) (s : State) : Result := loadPair .bc nn s
/-- `LD (nn),SP` (R202) -/
def execLd_mnn_SP (nn : Word) (s : State) : Result := storeSp nn s
/-- `LD DE,nn` (R201) -/
def execLd_DE_nn (nn : Word) (s : State) : Result := loadPair .de nn s
/-- `LD HL,nn` (R201) -/
def execLd_HL_nn (nn : Word) (s : State) : Result := loadPair .hl nn s
/-- `LD SP,nn` (R201) -/
def execLd_SP_nn (nn : Word) (s : State) : Result := loadPair .sp nn s
/-- `POP BC` (R206) -/
def execPop_BC (s : State) : Result := popPair .bc s
/-- `PUSH BC` (R205) -/
def execPush_BC (s : State) : Result := pushPair .bc s
/-- `POP DE` (R206) -/
def execPop_DE (s : State) : Result := popPair .de s
/-- `PUSH DE` (R205) -/
def execPush_DE (s : State) : Result := pushPair .de s
/-- `POP HL` (R206) -/
def execPop_HL (s : State) : Result := popPair .hl s
/-- `PUSH HL` (R205) -/
def execPush_HL (s : State) : Result := pushPair .hl s
/-- `POP AF` (R207) -/
def execPop_AF (s : State) : Result := popPair .af s
/-- `PUSH AF` (R205) -/
def execPush_AF (s : State) : Result := pushPair .af s
/-- `LD HL,SP+e` (R204) -/
def execLd_HL_SPe (e : Byte) (s : State) : Result := loadSpOffset e s
/-- `LD SP,HL` (R203) -/
def execLd_SP_HL (s : State) : Result := copyHlToSp s

end Sys2Proof.Machine
end

