-- ==== Sys2Proof/Machine/Load8.lean ====
section
/-! DEFINITION. The 8-bit loads (spec/40_load8.md R170 to R190). No load writes `F` (R170). First the shared operations, then one meaning per row of the table. -/

namespace Sys2Proof.Machine

/-! ## Shared operations -/

/-- `r8[y] <- r8[z]`, cost 4 (R171). -/
def copyReg (dst src : R8) (s : State) : Result := .next (stepClock 4 (s.setR8 dst (s.r8 src)))

/-- `r8[y] <- n`, cost 8 (R172). -/
def loadImm (dst : R8) (n : Byte) (s : State) : Result := .next (stepClock 8 (s.setR8 dst n))

/-- `r8[y] <- Read(HL)`, cost 8 (R173). -/
def loadHL (dst : R8) (s : State) : Result := .next (stepClock 8 (s.setR8 dst (read s s.hl)))

/-- `Write(HL, r8[z])`, cost 8 (R174). -/
def storeHL (r : R8) (s : State) : Result := .next (stepClock 8 (write s.hl (s.r8 r) s))

/-- `Write(HL, n)`, cost 12 (R175). -/
def storeImm (n : Byte) (s : State) : Result := .next (stepClock 12 (write s.hl n s))

/-- `A <- Read(address)`, then the change of `HL` of a post-modified form (R176, R177, R180, R182, R184, R187, R189). -/
def loadA (p : Ptr) (s : State) : Result :=
  .next (stepClock (ptrCost p) ((s.setR8 .a (read s (s.ptrAddr p))).ptrAfter p))

/-- `Write(address, A)`, then the change of `HL` of a post-modified form, whether or not the write was dropped (R178,
R179, R181, R183, R185, R186, R188). -/
def storeA (p : Ptr) (s : State) : Result :=
  .next (stepClock (ptrCost p) ((write (s.ptrAddr p) s.a s).ptrAfter p))

/-! ## One meaning per row of spec/opcode_table.json, in table order; the number after each is its rule -/

/-- `LD (BC),A` (R178) -/
def execLd_mBC_A (s : State) : Result := storeA .bc s
/-- `LD B,n` (R172) -/
def execLd_B_n (n : Byte) (s : State) : Result := loadImm .b n s
/-- `LD A,(BC)` (R176) -/
def execLd_A_mBC (s : State) : Result := loadA .bc s
/-- `LD C,n` (R172) -/
def execLd_C_n (n : Byte) (s : State) : Result := loadImm .c n s
/-- `LD (DE),A` (R179) -/
def execLd_mDE_A (s : State) : Result := storeA .de s
/-- `LD D,n` (R172) -/
def execLd_D_n (n : Byte) (s : State) : Result := loadImm .d n s
/-- `LD A,(DE)` (R177) -/
def execLd_A_mDE (s : State) : Result := loadA .de s
/-- `LD E,n` (R172) -/
def execLd_E_n (n : Byte) (s : State) : Result := loadImm .e n s
/-- `LD (HL+),A` (R186) -/
def execLd_mHLI_A (s : State) : Result := storeA .hlInc s
/-- `LD H,n` (R172) -/
def execLd_H_n (n : Byte) (s : State) : Result := loadImm .h n s
/-- `LD A,(HL+)` (R187) -/
def execLd_A_mHLI (s : State) : Result := loadA .hlInc s
/-- `LD L,n` (R172) -/
def execLd_L_n (n : Byte) (s : State) : Result := loadImm .l n s
/-- `LD (HL-),A` (R188) -/
def execLd_mHLD_A (s : State) : Result := storeA .hlDec s
/-- `LD (HL),n` (R175) -/
def execLd_mHL_n (n : Byte) (s : State) : Result := storeImm n s
/-- `LD A,(HL-)` (R189) -/
def execLd_A_mHLD (s : State) : Result := loadA .hlDec s
/-- `LD A,n` (R172) -/
def execLd_A_n (n : Byte) (s : State) : Result := loadImm .a n s
/-- `LD B,B` (R171) -/
def execLd_B_B (s : State) : Result := copyReg .b .b s
/-- `LD B,C` (R171) -/
def execLd_B_C (s : State) : Result := copyReg .b .c s
/-- `LD B,D` (R171) -/
def execLd_B_D (s : State) : Result := copyReg .b .d s
/-- `LD B,E` (R171) -/
def execLd_B_E (s : State) : Result := copyReg .b .e s
/-- `LD B,H` (R171) -/
def execLd_B_H (s : State) : Result := copyReg .b .h s
/-- `LD B,L` (R171) -/
def execLd_B_L (s : State) : Result := copyReg .b .l s
/-- `LD B,(HL)` (R173) -/
def execLd_B_mHL (s : State) : Result := loadHL .b s
/-- `LD B,A` (R171) -/
def execLd_B_A (s : State) : Result := copyReg .b .a s
/-- `LD C,B` (R171) -/
def execLd_C_B (s : State) : Result := copyReg .c .b s
/-- `LD C,C` (R171) -/
def execLd_C_C (s : State) : Result := copyReg .c .c s
/-- `LD C,D` (R171) -/
def execLd_C_D (s : State) : Result := copyReg .c .d s
/-- `LD C,E` (R171) -/
def execLd_C_E (s : State) : Result := copyReg .c .e s
/-- `LD C,H` (R171) -/
def execLd_C_H (s : State) : Result := copyReg .c .h s
/-- `LD C,L` (R171) -/
def execLd_C_L (s : State) : Result := copyReg .c .l s
/-- `LD C,(HL)` (R173) -/
def execLd_C_mHL (s : State) : Result := loadHL .c s
/-- `LD C,A` (R171) -/
def execLd_C_A (s : State) : Result := copyReg .c .a s
/-- `LD D,B` (R171) -/
def execLd_D_B (s : State) : Result := copyReg .d .b s
/-- `LD D,C` (R171) -/
def execLd_D_C (s : State) : Result := copyReg .d .c s
/-- `LD D,D` (R171) -/
def execLd_D_D (s : State) : Result := copyReg .d .d s
/-- `LD D,E` (R171) -/
def execLd_D_E (s : State) : Result := copyReg .d .e s
/-- `LD D,H` (R171) -/
def execLd_D_H (s : State) : Result := copyReg .d .h s
/-- `LD D,L` (R171) -/
def execLd_D_L (s : State) : Result := copyReg .d .l s
/-- `LD D,(HL)` (R173) -/
def execLd_D_mHL (s : State) : Result := loadHL .d s
/-- `LD D,A` (R171) -/
def execLd_D_A (s : State) : Result := copyReg .d .a s
/-- `LD E,B` (R171) -/
def execLd_E_B (s : State) : Result := copyReg .e .b s
/-- `LD E,C` (R171) -/
def execLd_E_C (s : State) : Result := copyReg .e .c s
/-- `LD E,D` (R171) -/
def execLd_E_D (s : State) : Result := copyReg .e .d s
/-- `LD E,E` (R171) -/
def execLd_E_E (s : State) : Result := copyReg .e .e s
/-- `LD E,H` (R171) -/
def execLd_E_H (s : State) : Result := copyReg .e .h s
/-- `LD E,L` (R171) -/
def execLd_E_L (s : State) : Result := copyReg .e .l s
/-- `LD E,(HL)` (R173) -/
def execLd_E_mHL (s : State) : Result := loadHL .e s
/-- `LD E,A` (R171) -/
def execLd_E_A (s : State) : Result := copyReg .e .a s
/-- `LD H,B` (R171) -/
def execLd_H_B (s : State) : Result := copyReg .h .b s
/-- `LD H,C` (R171) -/
def execLd_H_C (s : State) : Result := copyReg .h .c s
/-- `LD H,D` (R171) -/
def execLd_H_D (s : State) : Result := copyReg .h .d s
/-- `LD H,E` (R171) -/
def execLd_H_E (s : State) : Result := copyReg .h .e s
/-- `LD H,H` (R171) -/
def execLd_H_H (s : State) : Result := copyReg .h .h s
/-- `LD H,L` (R171) -/
def execLd_H_L (s : State) : Result := copyReg .h .l s
/-- `LD H,(HL)` (R173) -/
def execLd_H_mHL (s : State) : Result := loadHL .h s
/-- `LD H,A` (R171) -/
def execLd_H_A (s : State) : Result := copyReg .h .a s
/-- `LD L,B` (R171) -/
def execLd_L_B (s : State) : Result := copyReg .l .b s
/-- `LD L,C` (R171) -/
def execLd_L_C (s : State) : Result := copyReg .l .c s
/-- `LD L,D` (R171) -/
def execLd_L_D (s : State) : Result := copyReg .l .d s
/-- `LD L,E` (R171) -/
def execLd_L_E (s : State) : Result := copyReg .l .e s
/-- `LD L,H` (R171) -/
def execLd_L_H (s : State) : Result := copyReg .l .h s
/-- `LD L,L` (R171) -/
def execLd_L_L (s : State) : Result := copyReg .l .l s
/-- `LD L,(HL)` (R173) -/
def execLd_L_mHL (s : State) : Result := loadHL .l s
/-- `LD L,A` (R171) -/
def execLd_L_A (s : State) : Result := copyReg .l .a s
/-- `LD (HL),B` (R174) -/
def execLd_mHL_B (s : State) : Result := storeHL .b s
/-- `LD (HL),C` (R174) -/
def execLd_mHL_C (s : State) : Result := storeHL .c s
/-- `LD (HL),D` (R174) -/
def execLd_mHL_D (s : State) : Result := storeHL .d s
/-- `LD (HL),E` (R174) -/
def execLd_mHL_E (s : State) : Result := storeHL .e s
/-- `LD (HL),H` (R174) -/
def execLd_mHL_H (s : State) : Result := storeHL .h s
/-- `LD (HL),L` (R174) -/
def execLd_mHL_L (s : State) : Result := storeHL .l s
/-- `LD (HL),A` (R174) -/
def execLd_mHL_A (s : State) : Result := storeHL .a s
/-- `LD A,B` (R171) -/
def execLd_A_B (s : State) : Result := copyReg .a .b s
/-- `LD A,C` (R171) -/
def execLd_A_C (s : State) : Result := copyReg .a .c s
/-- `LD A,D` (R171) -/
def execLd_A_D (s : State) : Result := copyReg .a .d s
/-- `LD A,E` (R171) -/
def execLd_A_E (s : State) : Result := copyReg .a .e s
/-- `LD A,H` (R171) -/
def execLd_A_H (s : State) : Result := copyReg .a .h s
/-- `LD A,L` (R171) -/
def execLd_A_L (s : State) : Result := copyReg .a .l s
/-- `LD A,(HL)` (R173) -/
def execLd_A_mHL (s : State) : Result := loadHL .a s
/-- `LD A,A` (R171) -/
def execLd_A_A (s : State) : Result := copyReg .a .a s
/-- `LDH (n),A` (R183) -/
def execLdh_mn_A (n : Byte) (s : State) : Result := storeA (.high n) s
/-- `LD (C),A` (R185) -/
def execLd_mC_A (s : State) : Result := storeA .highC s
/-- `LD (nn),A` (R181) -/
def execLd_mnn_A (nn : Word) (s : State) : Result := storeA (.abs nn) s
/-- `LDH A,(n)` (R182) -/
def execLdh_A_mn (n : Byte) (s : State) : Result := loadA (.high n) s
/-- `LD A,(C)` (R184) -/
def execLd_A_mC (s : State) : Result := loadA .highC s
/-- `LD A,(nn)` (R180) -/
def execLd_A_mnn (nn : Word) (s : State) : Result := loadA (.abs nn) s

end Sys2Proof.Machine
end

