-- ==== Sys2Proof/Machine/Rotate.lean ====
section
/-! DEFINITION. Rotates, shifts and swap (spec/44_rotate_shift_bit.md R260 to R272, R276). First the shared operations, then one meaning per row of the table. -/

namespace Sys2Proof.Machine

/-! ## Shared operations -/

/-- A one-byte accumulator rotate: Z forced to 0, cost 4 (R261 to R264). -/
def rotateAcc (op : RotOp) (s : State) : Result :=
  let r := rotAccOut op s.a s.flagC
  .next (stepClock 4 ((s.setR8 .a r.value).setF r.flags))

/-- An extended rotate, shift or swap: cost 8 on a register, 16 on `(HL)`; flags from the computed value (R265 to R272,
R276). -/
def rotateLoc (op : RotOp) (x : Loc8) (s : State) : Result :=
  let r := rotOut op (s.loc8 x) s.flagC
  .next (stepClock (locCost x 8 16) ((s.setLoc8 x r.value).setF r.flags))

/-! ## One meaning per row of spec/opcode_table.json, in table order; the number after each is its rule -/

/-- `RLCA` (R261) -/
def execRlca (s : State) : Result := rotateAcc .rlc s
/-- `RRCA` (R262) -/
def execRrca (s : State) : Result := rotateAcc .rrc s
/-- `RLA` (R263) -/
def execRla (s : State) : Result := rotateAcc .rl s
/-- `RRA` (R264) -/
def execRra (s : State) : Result := rotateAcc .rr s
/-- `RLC B` (R265) -/
def execRlc_B (s : State) : Result := rotateLoc .rlc (.reg .b) s
/-- `RLC C` (R265) -/
def execRlc_C (s : State) : Result := rotateLoc .rlc (.reg .c) s
/-- `RLC D` (R265) -/
def execRlc_D (s : State) : Result := rotateLoc .rlc (.reg .d) s
/-- `RLC E` (R265) -/
def execRlc_E (s : State) : Result := rotateLoc .rlc (.reg .e) s
/-- `RLC H` (R265) -/
def execRlc_H (s : State) : Result := rotateLoc .rlc (.reg .h) s
/-- `RLC L` (R265) -/
def execRlc_L (s : State) : Result := rotateLoc .rlc (.reg .l) s
/-- `RLC (HL)` (R265) -/
def execRlc_mHL (s : State) : Result := rotateLoc .rlc .memHL s
/-- `RLC A` (R265) -/
def execRlc_A (s : State) : Result := rotateLoc .rlc (.reg .a) s
/-- `RRC B` (R266) -/
def execRrc_B (s : State) : Result := rotateLoc .rrc (.reg .b) s
/-- `RRC C` (R266) -/
def execRrc_C (s : State) : Result := rotateLoc .rrc (.reg .c) s
/-- `RRC D` (R266) -/
def execRrc_D (s : State) : Result := rotateLoc .rrc (.reg .d) s
/-- `RRC E` (R266) -/
def execRrc_E (s : State) : Result := rotateLoc .rrc (.reg .e) s
/-- `RRC H` (R266) -/
def execRrc_H (s : State) : Result := rotateLoc .rrc (.reg .h) s
/-- `RRC L` (R266) -/
def execRrc_L (s : State) : Result := rotateLoc .rrc (.reg .l) s
/-- `RRC (HL)` (R266) -/
def execRrc_mHL (s : State) : Result := rotateLoc .rrc .memHL s
/-- `RRC A` (R266) -/
def execRrc_A (s : State) : Result := rotateLoc .rrc (.reg .a) s
/-- `RL B` (R267) -/
def execRl_B (s : State) : Result := rotateLoc .rl (.reg .b) s
/-- `RL C` (R267) -/
def execRl_C (s : State) : Result := rotateLoc .rl (.reg .c) s
/-- `RL D` (R267) -/
def execRl_D (s : State) : Result := rotateLoc .rl (.reg .d) s
/-- `RL E` (R267) -/
def execRl_E (s : State) : Result := rotateLoc .rl (.reg .e) s
/-- `RL H` (R267) -/
def execRl_H (s : State) : Result := rotateLoc .rl (.reg .h) s
/-- `RL L` (R267) -/
def execRl_L (s : State) : Result := rotateLoc .rl (.reg .l) s
/-- `RL (HL)` (R267) -/
def execRl_mHL (s : State) : Result := rotateLoc .rl .memHL s
/-- `RL A` (R267) -/
def execRl_A (s : State) : Result := rotateLoc .rl (.reg .a) s
/-- `RR B` (R268) -/
def execRr_B (s : State) : Result := rotateLoc .rr (.reg .b) s
/-- `RR C` (R268) -/
def execRr_C (s : State) : Result := rotateLoc .rr (.reg .c) s
/-- `RR D` (R268) -/
def execRr_D (s : State) : Result := rotateLoc .rr (.reg .d) s
/-- `RR E` (R268) -/
def execRr_E (s : State) : Result := rotateLoc .rr (.reg .e) s
/-- `RR H` (R268) -/
def execRr_H (s : State) : Result := rotateLoc .rr (.reg .h) s
/-- `RR L` (R268) -/
def execRr_L (s : State) : Result := rotateLoc .rr (.reg .l) s
/-- `RR (HL)` (R268) -/
def execRr_mHL (s : State) : Result := rotateLoc .rr .memHL s
/-- `RR A` (R268) -/
def execRr_A (s : State) : Result := rotateLoc .rr (.reg .a) s
/-- `SLA B` (R269) -/
def execSla_B (s : State) : Result := rotateLoc .sla (.reg .b) s
/-- `SLA C` (R269) -/
def execSla_C (s : State) : Result := rotateLoc .sla (.reg .c) s
/-- `SLA D` (R269) -/
def execSla_D (s : State) : Result := rotateLoc .sla (.reg .d) s
/-- `SLA E` (R269) -/
def execSla_E (s : State) : Result := rotateLoc .sla (.reg .e) s
/-- `SLA H` (R269) -/
def execSla_H (s : State) : Result := rotateLoc .sla (.reg .h) s
/-- `SLA L` (R269) -/
def execSla_L (s : State) : Result := rotateLoc .sla (.reg .l) s
/-- `SLA (HL)` (R269) -/
def execSla_mHL (s : State) : Result := rotateLoc .sla .memHL s
/-- `SLA A` (R269) -/
def execSla_A (s : State) : Result := rotateLoc .sla (.reg .a) s
/-- `SRA B` (R270) -/
def execSra_B (s : State) : Result := rotateLoc .sra (.reg .b) s
/-- `SRA C` (R270) -/
def execSra_C (s : State) : Result := rotateLoc .sra (.reg .c) s
/-- `SRA D` (R270) -/
def execSra_D (s : State) : Result := rotateLoc .sra (.reg .d) s
/-- `SRA E` (R270) -/
def execSra_E (s : State) : Result := rotateLoc .sra (.reg .e) s
/-- `SRA H` (R270) -/
def execSra_H (s : State) : Result := rotateLoc .sra (.reg .h) s
/-- `SRA L` (R270) -/
def execSra_L (s : State) : Result := rotateLoc .sra (.reg .l) s
/-- `SRA (HL)` (R270) -/
def execSra_mHL (s : State) : Result := rotateLoc .sra .memHL s
/-- `SRA A` (R270) -/
def execSra_A (s : State) : Result := rotateLoc .sra (.reg .a) s
/-- `SWAP B` (R271) -/
def execSwap_B (s : State) : Result := rotateLoc .swap (.reg .b) s
/-- `SWAP C` (R271) -/
def execSwap_C (s : State) : Result := rotateLoc .swap (.reg .c) s
/-- `SWAP D` (R271) -/
def execSwap_D (s : State) : Result := rotateLoc .swap (.reg .d) s
/-- `SWAP E` (R271) -/
def execSwap_E (s : State) : Result := rotateLoc .swap (.reg .e) s
/-- `SWAP H` (R271) -/
def execSwap_H (s : State) : Result := rotateLoc .swap (.reg .h) s
/-- `SWAP L` (R271) -/
def execSwap_L (s : State) : Result := rotateLoc .swap (.reg .l) s
/-- `SWAP (HL)` (R271) -/
def execSwap_mHL (s : State) : Result := rotateLoc .swap .memHL s
/-- `SWAP A` (R271) -/
def execSwap_A (s : State) : Result := rotateLoc .swap (.reg .a) s
/-- `SRL B` (R272) -/
def execSrl_B (s : State) : Result := rotateLoc .srl (.reg .b) s
/-- `SRL C` (R272) -/
def execSrl_C (s : State) : Result := rotateLoc .srl (.reg .c) s
/-- `SRL D` (R272) -/
def execSrl_D (s : State) : Result := rotateLoc .srl (.reg .d) s
/-- `SRL E` (R272) -/
def execSrl_E (s : State) : Result := rotateLoc .srl (.reg .e) s
/-- `SRL H` (R272) -/
def execSrl_H (s : State) : Result := rotateLoc .srl (.reg .h) s
/-- `SRL L` (R272) -/
def execSrl_L (s : State) : Result := rotateLoc .srl (.reg .l) s
/-- `SRL (HL)` (R272) -/
def execSrl_mHL (s : State) : Result := rotateLoc .srl .memHL s
/-- `SRL A` (R272) -/
def execSrl_A (s : State) : Result := rotateLoc .srl (.reg .a) s

end Sys2Proof.Machine
end

