-- ==== Sys2Proof/Machine/System.lean ====
section
/-! DEFINITION. The system instructions and the undefined opcodes (spec/46_system.md R310 to R316). First the shared operations, then one meaning per row of the table. -/

namespace Sys2Proof.Machine

/-! ## Shared operations -/

/-- `NOP`, cost 4 (R310). -/
def doNothing (s : State) : Result := .next (stepClock 4 s)

/-- `DI`, at once, cost 4 (R311). -/
def disableInterrupts (s : State) : Result := .next (stepClock 4 { s with ime := false })

/-- `EI`, at once, cost 4 (R315). -/
def enableInterrupts (s : State) : Result := .next (stepClock 4 { s with ime := true })

/-- `HALT`, cost 4 (R312). -/
def enterLowPower (s : State) : Result := .next (stepClock 4 { s with halted := true })

/-- `STOP`: the status becomes the terminal refusal, with the address of the 0x10 byte, two before the advanced `PC`;
the byte after it is ignored; no cost is charged (R313; log 11). -/
def stopRefused (_ignored : Byte) (s : State) : Result := .next (refuseStop (s.pc - 2) s)

/-- An undefined opcode: the decode failure, with the address of the opcode, one before the advanced `PC`; no cost is
charged (R314, R400; log 11). -/
def undefinedOpcode (op : Byte) (s : State) : Result := .next (raiseDecodeFailure (s.pc - 1) op s)

/-! ## One meaning per row of spec/opcode_table.json, in table order; the number after each is its rule -/

/-- `STOP` (R313) -/
def execStop (n : Byte) (s : State) : Result := stopRefused n s
/-- `NOP` (R310) -/
def execNop (s : State) : Result := doNothing s
/-- `HALT` (R312) -/
def execHalt (s : State) : Result := enterLowPower s
/-- `UNDEFINED 0xD3` (R314) -/
def execUndefined_D3 (s : State) : Result := undefinedOpcode 0xD3 s
/-- `UNDEFINED 0xDB` (R314) -/
def execUndefined_DB (s : State) : Result := undefinedOpcode 0xDB s
/-- `UNDEFINED 0xDD` (R314) -/
def execUndefined_DD (s : State) : Result := undefinedOpcode 0xDD s
/-- `UNDEFINED 0xE3` (R314) -/
def execUndefined_E3 (s : State) : Result := undefinedOpcode 0xE3 s
/-- `UNDEFINED 0xE4` (R314) -/
def execUndefined_E4 (s : State) : Result := undefinedOpcode 0xE4 s
/-- `UNDEFINED 0xEB` (R314) -/
def execUndefined_EB (s : State) : Result := undefinedOpcode 0xEB s
/-- `UNDEFINED 0xEC` (R314) -/
def execUndefined_EC (s : State) : Result := undefinedOpcode 0xEC s
/-- `UNDEFINED 0xED` (R314) -/
def execUndefined_ED (s : State) : Result := undefinedOpcode 0xED s
/-- `DI` (R311) -/
def execDi (s : State) : Result := disableInterrupts s
/-- `UNDEFINED 0xF4` (R314) -/
def execUndefined_F4 (s : State) : Result := undefinedOpcode 0xF4 s
/-- `EI` (R315) -/
def execEi (s : State) : Result := enableInterrupts s
/-- `UNDEFINED 0xFC` (R314) -/
def execUndefined_FC (s : State) : Result := undefinedOpcode 0xFC s
/-- `UNDEFINED 0xFD` (R314) -/
def execUndefined_FD (s : State) : Result := undefinedOpcode 0xFD s

end Sys2Proof.Machine
end

