-- ==== Sys2Proof/Machine/Step.lean ====
section
/-! DEFINITION. The machine's one internal transition (spec/60_exceptions.md R430, R436), and the placing of an instruction
where it is fetched next. Everything it does is a named operation of Machine/Ops.lean. -/

namespace Sys2Proof.Machine

/-- One fetched instruction with what follows it (R430). -/
def runInstr (s : State) : Host.Outcome State Fault Refusal :=
  finishStep (exec (fetch s).1 (fetch s).2)

/-- The step of an open gate: an idle tick, a dispatch, or one instruction (R430). -/
def openStep (s : State) : Host.Outcome State Fault Refusal :=
  if s.idles then .next (ppuTimingCheck (stepClock 4 s))
  else if s.dispatches then .next (ppuTimingCheck (dispatch (wake s)))
  else runInstr (wake s)

/-- One step (R430), enabled iff the status is `running`, `ended` is clear and `elapsed < budget` (R436); where it is
not enabled the machine does not move, and the answer names the reason (log 10, log 11). -/
def step (s : State) : Host.Outcome State Fault Refusal :=
  match s.status with
  | .faulted addr op => .fault (.decodeFailure addr op)
  | .refusedStop addr => .refused (.stopExecuted addr)
  | .running =>
    if s.ended then .fault .runEnded
    else if s.withinBudget then openStep s
    else .fault .budgetSpent

/-- The state with the instruction of a table word stored at `PC`, raw, as a ROM image is placed (R462), and ready to
fetch it: the gate open, no idle tick, no dispatch due (log 14). -/
def State.withFetchWord (s : State) (nbits w : Nat) : State :=
  let t := fetchable s
  readyToFetch (placeBytes t.pc (tableBytes nbits w) t)

end Sys2Proof.Machine
end

