-- ==== Sys2Proof/Machine/HostMoves.lean ====
section
/-! DEFINITION. The host, the other agent (spec/60_exceptions.md R450, R452; spec/50_ppu.md R384). Its moves fall between
two steps, each atomic; `step` never makes one (log 15). -/

namespace Sys2Proof.Machine

/-- The moves of R450 that change the state, and the debugger's poke of R452. -/
inductive HostMove where
  | advanceBudget (b : Budget)
  | endRun
  | setJoypad (new : Byte)
  | poke (addr : Word) (v : Byte)
  deriving DecidableEq, Repr

/-- `b >= budget`: MAX is above every limit (R41, R450). -/
def Budget.le (a b : Budget) : Bool :=
  match a, b with
  | _, .max => true
  | .max, .upTo _ => false
  | .upTo m, .upTo n => decide (m ≤ n)

/-- A host move, or none where its precondition fails: `budget` never decreases (R450). `End()` leaves `budget` as it
is, since clock values are unbounded (log 6). -/
def State.hostMove (m : HostMove) (s : State) : Option State :=
  match m with
  | .advanceBudget b => if s.budget.le b then some { s with budget := b } else none
  | .endRun => some { s with ended := true }
  | .setJoypad new => some (setJoypad new s)
  | .poke addr v => some (write addr v s)

/-! ## The moves that only look (R384, R441, R450) -/

/-- `GetJoypad()`. -/
def State.getJoypad (s : State) : Byte := s.joypad

/-- `ReadLines()`. -/
def State.readLines (s : State) : List (List Shade) := s.lines

/-- The visible pixels of a line, `lines[ly][8 .. 167]` (R384). -/
def State.visibleLine (s : State) (ly : Nat) : List Shade := ((s.lines.getD ly []).drop 8).take 160

/-- `Inspect()` of memory: the stored bytes of a range, with no `Read` (R450, R452). -/
def State.dump (s : State) (addr : Word) (count : Nat) : List Byte :=
  (List.range count).map fun k => s.raw (addr + BitVec.ofNat 16 k).toNat

end Sys2Proof.Machine
end

