-- ==== Sys2Proof/Machine/PowerOn.lean ====
section
/-! DEFINITION. The reset sequence with a ROM image (spec/70_reset_and_hazards.md R460 to R465). `State.reset` of
Machine/State.lean is its result where the image holds only `INIT_RAM` bytes (log 1). -/

namespace Sys2Proof.Machine

/-- Stores a list of bytes in the raw array from an address up, not through `Write` (R462). -/
def placeImage (addr : Nat) (bytes : List Byte) (s : State) : State :=
  match bytes with
  | [] => s
  | b :: rest => placeImage (addr + 1) rest (s.setRaw addr b)

/-- Memory with `INIT_RAM` in every byte (R463): below 0xFF00 an unlisted address reads so already. -/
def blankMemory (s : State) : State :=
  Memory.resetIo.foldl (fun s p => s.setRaw p.1 Config.initRam) s

/-- The state after steps (1) to (3) of R460: image placed, memory filled, CPU registers, coordinator and joypad set, the
PPU flags and palettes as 0x00 decodes, nothing of the table written. -/
def beforeTable (rom : List Byte) : State :=
  let s := placeImage 0 rom (blankMemory State.reset)
  { (s.setRaw 0xFF00 0xFF) with
    mode := .hblank, scanline := 0, nextEvent := 0
    lcdOn := false, bgOn := false, spriteOn := false, winOn := false, tileUnsigned := false
    bgMap := .at9800, winMap := .at9800
    palBg := palDecode 0, palObj0 := palDecode 0, palObj1 := palDecode 0 }

/-- Step (4) of R460: the power-on table, each entry by `Write` in ascending address order (R464). -/
def writeTable (s : State) : State :=
  Config.powerOnTable.foldl (fun s p => write (BitVec.ofNat 16 p.1) p.2 s) s

/-- Power-on from a ROM image, or none where the image is empty or longer than 0x8000 bytes (R460, R462). -/
def State.powerOn (rom : List Byte) : Option State :=
  if romWellFormed rom then some (writeTable (beforeTable rom)) else none

end Sys2Proof.Machine
end

