-- ==== Sys2Proof/Safety.lean ====
section
/-! DEFINITION. What the statements about the machine are made of: runs, the parts of the state an instruction may keep,
the bytes a store may change, the rows of one shape with their opcode numbers, the pixel of a sprite, and the invariants. -/

namespace Sys2Proof

/-! ## The numbers that encode operands (R148 to R152) -/

/-- The index of a register in `r8` (R148). -/
def R8.code (r : R8) : Nat :=
  match r with
  | .b => 0 | .c => 1 | .d => 2 | .e => 3 | .h => 4 | .l => 5 | .a => 7

/-- The index of an operand in `r8`, `(HL)` being 6 (R148). -/
def Loc8.code (x : Loc8) : Nat :=
  match x with
  | .reg r => r.code
  | .memHL => 6

/-- The index of a pair in `r16` (R149). -/
def R16.code (rr : R16) : Nat :=
  match rr with
  | .bc => 0 | .de => 1 | .hl => 2 | .sp => 3

/-- The index of a pair in `r16stk` (R150). -/
def R16Stk.code (rr : R16Stk) : Nat :=
  match rr with
  | .bc => 0 | .de => 1 | .hl => 2 | .af => 3

/-- The index of a condition (R151). -/
def Cond.code (cc : Cond) : Nat :=
  match cc with
  | .nz => 0 | .z => 1 | .nc => 2 | .c => 3

/-- The index of an accumulator operation (R152). -/
def AluOp.code (op : AluOp) : Nat :=
  match op with
  | .add => 0 | .adc => 1 | .sub => 2 | .sbc => 3 | .and => 4 | .xor => 5 | .or => 6 | .cp => 7

/-- The index of a rotate or shift (R152). -/
def RotOp.code (op : RotOp) : Nat :=
  match op with
  | .rlc => 0 | .rrc => 1 | .rl => 2 | .rr => 3 | .sla => 4 | .sra => 5 | .swap => 6 | .srl => 7

/-- The byte with a number. -/
def byteOf (n : Nat) : Byte := BitVec.ofNat 8 n

end Sys2Proof

namespace Sys2Proof.Machine

/-! ## Runs -/

/-- A state that some run from power-on reaches: steps and host moves in any order (R436, R450, R460). -/
inductive Reachable : State → Prop where
  | powerOn (rom : List Byte) (s : State) : State.powerOn rom = some s → Reachable s
  | step (s t : State) : Reachable s → Machine.step s = .next t → Reachable t
  | host (m : HostMove) (s t : State) : Reachable s → s.hostMove m = some t → Reachable t

/-- The gate of R436: the machine may take a step. -/
def State.gateOpen (s : State) : Prop := s.status = .running ∧ s.ended = false ∧ s.withinBudget = true

/-- What it is for a run to be safe: it never met an undefined opcode and never executed `STOP` (R31, R473). -/
def State.Safe (s : State) : Prop := s.status = .running

/-- One instruction's meaning `n` times over, with no fetch and no timing check between. -/
def execTimes (n : Nat) (i : Instr) (s : State) : Result :=
  match n with
  | 0 => .next s
  | n + 1 =>
    match exec i s with
    | .next t => execTimes n i t
    | .fault x => .fault x
    | .refused x => .refused x

/-! ## Frames -/

/-- The parts of the state that are neither memory, nor the clock, nor the picture unit's own. -/
inductive Part where
  | reg (r : R8)
  | flags
  | sp
  | pc
  | ime
  | halted
  | status
  | budget
  | ended
  | joypad
  | lines
  deriving DecidableEq, Repr

/-- Two states agree on a part. -/
def SamePart (s t : State) (p : Part) : Prop :=
  match p with
  | .reg r => t.r8 r = s.r8 r
  | .flags => t.f = s.f
  | .sp => t.sp = s.sp
  | .pc => t.pc = s.pc
  | .ime => t.ime = s.ime
  | .halted => t.halted = s.halted
  | .status => t.status = s.status
  | .budget => t.budget = s.budget
  | .ended => t.ended = s.ended
  | .joypad => t.joypad = s.joypad
  | .lines => t.lines = s.lines

/-- Every part is kept but those listed. -/
def Keeps (changed : List Part) (s t : State) : Prop := ∀ p, p ∉ changed → SamePart s t p

/-- The picture unit's own state is kept: flags, scanline machine, caches, palettes. -/
structure SamePpu (s t : State) : Prop where
  lcdOn : t.lcdOn = s.lcdOn
  bgOn : t.bgOn = s.bgOn
  spriteOn : t.spriteOn = s.spriteOn
  winOn : t.winOn = s.winOn
  tileUnsigned : t.tileUnsigned = s.tileUnsigned
  bgMap : t.bgMap = s.bgMap
  winMap : t.winMap = s.winMap
  mode : t.mode = s.mode
  scanline : t.scanline = s.scanline
  nextEvent : t.nextEvent = s.nextEvent
  tiles : t.tiles = s.tiles
  sprites : t.sprites = s.sprites
  palBg : t.palBg = s.palBg
  palObj0 : t.palObj0 = s.palObj0
  palObj1 : t.palObj1 = s.palObj1

/-- Memory and the picture unit are kept: what an instruction that stores nothing leaves alone. -/
def SameMemory (s t : State) : Prop := t.mem = s.mem ∧ SamePpu s t

/-- Whether a store to `ea` may change what a read of `x` gives (R63, R74, R111, R340, R346, R368): nothing below 0x8000
or at LY; OAM too by the DMA register; STAT and LY too by LCDC; STAT too by LYC; elsewhere the byte itself. -/
def storeTouches (ea x : Word) : Bool :=
  if ea < 0x8000 then false
  else if ea = 0xFF44 then false
  else if ea = 0xFF46 then decide (x = 0xFF46) || (decide (0xFE00 ≤ x) && decide (x ≤ 0xFE9F))
  else if ea = 0xFF40 then decide (x = 0xFF40) || decide (x = 0xFF41) || decide (x = 0xFF44)
  else if ea = 0xFF45 then decide (x = 0xFF45) || decide (x = 0xFF41)
  else decide (x = ea)

/-- Every byte reads as before but those that stores to the listed addresses may change. -/
def BytesKept (stored : List Word) (s t : State) : Prop :=
  ∀ x : Word, (∀ ea ∈ stored, storeTouches ea x = false) → read t x = read s x

/-- Addresses whose store changes that byte to the value stored, and no other byte: not ROM, P1, LCDC, STAT, LY, LYC or
the DMA register (R111, R119). -/
def storesPlainly (ea : Word) : Bool :=
  decide (0x8000 ≤ ea) && decide (ea ≠ 0xFF00) && decide (ea ≠ 0xFF40) && decide (ea ≠ 0xFF41) &&
    decide (ea ≠ 0xFF44) && decide (ea ≠ 0xFF45) && decide (ea ≠ 0xFF46)

/-- Addresses where a store does nothing but store: tile maps, general RAM, the unnamed ranges, the plain I/O bytes, and
IF and IE, since the latch is derived (R92, R101, R111). -/
def uninterceptedAddr (ea : Word) : Bool :=
  (decide (0x9800 ≤ ea) && decide (ea < 0xFE00)) || (decide (0xFEA0 ≤ ea) && decide (ea < 0xFF40) && decide (ea ≠ 0xFF00)) ||
    decide (0xFF4B < ea) || decide (ea = 0xFF42) || decide (ea = 0xFF43) || decide (ea = 0xFF4A) || decide (ea = 0xFF4B)

/-! ## Rows of one shape -/

/-- The row of an accumulator operation with its operand in any of the three forms (R216). -/
def ofAluSrc (op : AluOp) (x : AluSrc) : Instr :=
  match x with
  | .loc x => Instr.ofAlu op x
  | .imm n => Instr.ofAluImm op n

/-- The bytes of that row: `0b10yyyzzz`, or `0b11yyy110 n` (R216). -/
def aluBytes (op : AluOp) (x : AluSrc) : List Byte :=
  match x with
  | .loc x => [byteOf (0x80 + 8 * op.code + x.code)]
  | .imm n => [byteOf (0xC6 + 8 * op.code), n]

/-- The row that loads `A` through a pointer operand (R190). -/
def ofLoadA (p : Ptr) : Instr :=
  match p with
  | .bc => .ld_A_mBC
  | .de => .ld_A_mDE
  | .hlInc => .ld_A_mHLI
  | .hlDec => .ld_A_mHLD
  | .abs nn => .ld_A_mnn nn
  | .high n => .ldh_A_mn n
  | .highC => .ld_A_mC

/-- The row that stores `A` through a pointer operand (R190). -/
def ofStoreA (p : Ptr) : Instr :=
  match p with
  | .bc => .ld_mBC_A
  | .de => .ld_mDE_A
  | .hlInc => .ld_mHLI_A
  | .hlDec => .ld_mHLD_A
  | .abs nn => .ld_mnn_A nn
  | .high n => .ldh_mn_A n
  | .highC => .ld_mC_A

/-- The parts a pointer operand's post-modification changes (R186 to R190). -/
def ptrChanges (p : Ptr) : List Part :=
  match p with
  | .hlInc => [.reg .h, .reg .l]
  | .hlDec => [.reg .h, .reg .l]
  | .bc => []
  | .de => []
  | .abs _ => []
  | .high _ => []
  | .highC => []

/-- The instructions that write `F`: the rows of R215 but its last one. -/
def writesFlags (i : Instr) : Prop :=
  (∃ op x, i = ofAluSrc op x) ∨ (∃ x, i = Instr.ofInc x) ∨ (∃ x, i = Instr.ofDec x) ∨
    i = .daa ∨ i = .cpl ∨ i = .scf ∨ i = .ccf ∨ (∃ rr, i = Instr.ofAddHL rr) ∨ (∃ e, i = .add_SP_e e) ∨
    (∃ e, i = .ld_HL_SPe e) ∨ i = .rlca ∨ i = .rrca ∨ i = .rla ∨ i = .rra ∨ (∃ op x, i = Instr.ofRot op x) ∨
    (∃ b x, i = Instr.ofBit b x) ∨ i = .pop_AF

/-! ## Pixels -/

/-- The colour index a sprite puts at a buffer index of a line, 0 where it has no pixel there (R374). -/
def State.spriteColour (s : State) (ly : Nat) (sp : Sprite) (k : Nat) : Colour :=
  if sp.x.toNat ≤ k ∧ k < sp.x.toNat + 8 then
    s.tilePixel sp.tile.toNat
      (if sp.yflip then 7 - (ly + 16 - sp.y.toNat) else ly + 16 - sp.y.toNat)
      (if sp.xflip then 7 - (k - sp.x.toNat) else k - sp.x.toNat)
  else 0

/-- The shade that colour index takes through the sprite's palette (R374). -/
def State.spriteShade (s : State) (ly : Nat) (sp : Sprite) (k : Nat) : Shade :=
  (if sp.pal then s.palObj1 else s.palObj0).shade (s.spriteColour ly sp k)

/-- No sprite of a pass has an opaque pixel at a buffer index of a line (R374). -/
def State.NoSpriteAt (s : State) (ly k : Nat) (behind : Bool) : Prop :=
  ∀ p ∈ spritesOfLine s ly behind, s.spriteColour ly p.2 k = 0

/-- The numbered sprite of a pass that shows at a buffer index of a line: of those opaque there the one with the larger `x`,
among equal `x` the one with the lower index (R375). -/
def State.TopSprite (s : State) (ly k : Nat) (behind : Bool) (w : Nat × Sprite) : Prop :=
  w ∈ spritesOfLine s ly behind ∧ s.spriteColour ly w.2 k ≠ 0 ∧
    ∀ q ∈ spritesOfLine s ly behind, s.spriteColour ly q.2 k ≠ 0 →
      q.2.x.toNat < w.2.x.toNat ∨ (q.2.x = w.2.x ∧ w.1 ≤ q.1)

/-! ## Invariants -/

/-- The flags register's low nibble is zero (R26, R27). -/
def FlagsInv (s : State) : Prop := s.f &&& 0x0F = 0

/-- The address space is in its canonical form (log 7). -/
def MemoryInv (s : State) : Prop := Memory.wf s.mem = true

/-- The lists of the picture unit have the lengths R46, R47 and R49 give them. -/
structure ShapeInv (s : State) : Prop where
  tiles : s.tiles.length = 384
  rows : ∀ t < 384, (s.tiles.getD t []).length = 8
  pixels : ∀ t < 384, ∀ r < 8, (s.cachedTileRow t r).length = 8
  sprites : s.sprites.length = 40
  lines : s.lines.length = 144
  entries : ∀ ly < 144, (s.lines.getD ly []).length = 176

/-- The decoded LCDC flags are those of the byte at 0xFF40 (R44, R340). -/
structure LcdcInv (s : State) : Prop where
  lcdOn : s.lcdOn = (s.raw 0xFF40).getLsbD 7
  winMap : s.winMap = mapOf ((s.raw 0xFF40).getLsbD 6)
  winOn : s.winOn = (s.raw 0xFF40).getLsbD 5
  tileUnsigned : s.tileUnsigned = (s.raw 0xFF40).getLsbD 4
  bgMap : s.bgMap = mapOf ((s.raw 0xFF40).getLsbD 3)
  spriteOn : s.spriteOn = (s.raw 0xFF40).getLsbD 1
  bgOn : s.bgOn = (s.raw 0xFF40).getLsbD 0

/-- The tile cache, the sprite table and the palettes are those of the bytes in memory (R46, R47, R48). -/
structure CacheInv (s : State) : Prop where
  tiles : ∀ t < 384, ∀ r < 8, s.cachedTileRow t r = s.memTileRow t r
  sprites : ∀ i < 40, s.sprite i = s.memSprite i
  palBg : s.palBg = palDecode (s.raw 0xFF47)
  palObj0 : s.palObj0 = palDecode (s.raw 0xFF48)
  palObj1 : s.palObj1 = palDecode (s.raw 0xFF49)

/-- STAT's bit 7 reads 0 and its bits 2:0 are current (R71, R346). -/
def StatInv (s : State) : Prop := s.raw 0xFF41 &&& 0x87 = s.statBits

/-- P1's bits 7:6 read 1 and its bits 3:0 are the keys of the selected groups (R65). -/
def JoypadInv (s : State) : Prop :=
  s.raw 0xFF00 = 0xC0 ||| (s.raw 0xFF00 &&& 0x30) ||| s.keysFor (s.raw 0xFF00 &&& 0x30)

/-- The scanline is one of 154, the mode is h-blank in vertical blank and while the LCD is off, and the scanline is 0
while the LCD is off (R45, R342, R352). -/
structure ScanlineInv (s : State) : Prop where
  range : s.scanline < 154
  blank : 144 ≤ s.scanline → s.mode = .hblank
  offLine : s.lcdOn = false → s.scanline = 0
  offMode : s.lcdOn = false → s.mode = .hblank

/-- While the LCD is on, the next transition is still ahead, and by at most one scanline (R348). -/
def ClockInv (s : State) : Prop := s.lcdOn = true → s.elapsed < s.nextEvent ∧ s.nextEvent ≤ s.elapsed + 456

/-- All of them. -/
structure Inv (s : State) : Prop where
  flags : FlagsInv s
  memory : MemoryInv s
  shape : ShapeInv s
  lcdc : LcdcInv s
  caches : CacheInv s
  stat : StatInv s
  joypad : JoypadInv s
  scanline : ScanlineInv s
  clock : ClockInv s

end Sys2Proof.Machine
end

