-- ==== Sys2Proof/Certificates/Slice0/Obligations.lean ====
section
/-! DEFINITION. The statements for the provers, one definition each. A row `LD r,r'` is named by its operands through
the tables of Decode.lean (`Instr.ofLd d r` and so on); `R8.code` and its companions give the numbers that encode them. -/

open Sys2Proof Sys2Proof.Machine

/-! ## Encoding and fetch -/

/-- One word of every family, written out from the formats and the opcode map (R143, R147, R153 to R157, R160). -/
def Obligations.DecodeOfSpecWords : Prop :=
  decode [0b00111110, 0x42, 0x99] = .ok (.ld_A_n 0x42, [0x99]) ∧
  decode [0b01000110] = .ok (.ld_B_mHL, []) ∧
  decode [0b00100001, 0x34, 0x12] = .ok (.ld_HL_nn 0x1234, []) ∧
  decode [0b11110101] = .ok (.push_AF, []) ∧
  decode [0b10001011] = .ok (.adc_A_E, []) ∧
  decode [0b11111110, 0x40] = .ok (.cp_A_n 0x40, []) ∧
  decode [0b00011001] = .ok (.add_HL_DE, []) ∧
  decode [0b11101000, 0xFE] = .ok (.add_SP_e 0xFE, []) ∧
  decode [0b11001011, 0b00110111] = .ok (.swap_A, []) ∧
  decode [0b11001011, 0b01111110] = .ok (.bit_7_mHL, []) ∧
  decode [0b11001011, 0b10000000] = .ok (.res_0_B, []) ∧
  decode [0b11001011, 0b11011000] = .ok (.set_3_B, []) ∧
  decode [0b11001010, 0x50, 0x01] = .ok (.jp_Z_nn 0x0150, []) ∧
  decode [0b00111000, 0xFC] = .ok (.jr_C_e 0xFC, []) ∧
  decode [0b11101111] = .ok (.rst_28, []) ∧
  decode [0b01110110] = .ok (.halt, []) ∧
  decode [0b11010011] = .ok (.undefined_D3, [])

/-- Decoding what the encoder writes gives the instruction back, with every operand at every value, and leaves the bytes
that follow. -/
def Obligations.DecodeAfterEncode : Prop :=
  ∀ (i : Instr) (rest : List Byte), decode (encode i ++ rest) = .ok (i, rest)

/-- Encoding what the decoder reads gives the bytes back: no two byte strings are the same instruction. -/
def Obligations.EncodeAfterDecode : Prop :=
  ∀ (bytes : List Byte) (i : Instr) (rest : List Byte), decode bytes = .ok (i, rest) → encode i ++ rest = bytes

/-- A whole instruction sequence decodes back, one instruction after the other: no encoding is the beginning of another. -/
def Obligations.ProgramRoundTrip : Prop :=
  ∀ (is : List Instr) (rest : List Byte), decodeMany is.length (encodeAll is ++ rest) = .ok (is, rest)

/-- Exactly the 11 listed opcodes are undefined, whatever bytes follow (R160), and they are the ill-formed rows. -/
def Obligations.UndefinedOpcodesAreEleven : Prop :=
  ∀ (op o8 : Byte) (o16 : Word), (decodeParts op o8 o16).wellFormed = false ↔
    op ∈ ([0xD3, 0xDB, 0xDD, 0xE3, 0xE4, 0xEB, 0xEC, 0xED, 0xF4, 0xFC, 0xFD] : List Byte)

/-- The fetch never fails, at any `PC`: the bytes at `PC`, at ascending addresses through `Read`, are exactly one
instruction, and `PC` moves past them (R140, R141, R142). -/
def Obligations.FetchReadsOneInstruction : Prop :=
  ∀ s : State, decode (fetchBytes s) = .ok ((fetch s).1, []) ∧
    (fetch s).2 = { s with pc := s.pc + BitVec.ofNat 16 (fetchBytes s).length } ∧
    (fetchBytes s).length = lengthOf (read s s.pc) ∧
    ∀ k < (fetchBytes s).length, (fetchBytes s).getD k 0 = read s (s.pc + BitVec.ofNat 16 k)

/-! ## The step -/

/-- Where the gate is open and no idle tick and no dispatch is due, a step is the meaning of the instruction that the
bytes at `PC` decode to, run with the low-power mode left and `PC` past it, and then, unless the run ended there, the PPU
timing check (R430). -/
def Obligations.StepRunsDecoded : Prop :=
  ∀ (s : State) (i : Instr), s.gateOpen → s.idles = false → s.dispatches = false →
    decode (fetchBytes s) = .ok (i, []) →
    step s =
      match exec i { s with halted := false, pc := s.pc + BitVec.ofNat 16 (encode i).length } with
      | .next t => .next (if t.status = .running then ppuTimingCheck t else t)
      | .fault x => .fault x
      | .refused x => .refused x

/-- A step answers a next state exactly where the status is Running, `ended` is clear and `elapsed < budget`, and it may
leave `elapsed` up to `budget + 23` (R436). -/
def Obligations.GateDecidesStep : Prop :=
  ∀ s : State, ((∃ t, step s = .next t) ↔
      s.status = .running ∧ s.ended = false ∧ (s.budget = .max ∨ ∃ n, s.budget = .upTo n ∧ s.elapsed < n)) ∧
    ∀ t n, step s = .next t → s.budget = .upTo n → t.elapsed ≤ n + 23

/-- An idle tick: halted, with no enabled request, a step fetches nothing, costs 4 and runs the timing check (R312, R430,
R431). -/
def Obligations.IdleTick : Prop :=
  ∀ s : State, s.gateOpen → s.halted = true → s.raw 0xFFFF &&& s.raw 0xFF0F &&& 0x1F = 0 →
    step s = .next (ppuTimingCheck { s with elapsed := s.elapsed + 4 })

/-- Taking an interrupt (R420): `SP - 2`, `PC` stored through `Write` low byte first, `PC` to `0x40 + 8 * line`, `IME`
clear, the line's bit of IF cleared after the push, cost 16, and the low-power mode left. The line is the lowest with
its bit set in both IE and IF. -/
def Obligations.DispatchEffect : Prop :=
  ∀ (s : State) (line : Nat), s.gateOpen → s.ime = true → line < 5 →
    (s.raw 0xFFFF &&& s.raw 0xFF0F).getLsbD line = true →
    (∀ j < line, (s.raw 0xFFFF &&& s.raw 0xFF0F).getLsbD j = false) →
    ∃ p : State,
      p = write (s.sp - 1) (s.pc.extractLsb' 8 8)
        (write (s.sp - 2) (s.pc.extractLsb' 0 8) { s with halted := false, sp := s.sp - 2 }) ∧
      step s = .next (ppuTimingCheck
        { (p.setRaw 0xFF0F (p.raw 0xFF0F &&& ~~~(1#8 <<< line))) with
          pc := BitVec.ofNat 16 (0x40 + 8 * line), ime := false, elapsed := s.elapsed + 16 })

/-- The lowest line is served and only its bit is cleared: with the stack outside the I/O page, a dispatch goes to the
vector of the lowest enabled pending line, leaves IF's other bits to the timing check's requests, and empties the latch
(R33, R413, R421). -/
def Obligations.DispatchServesLowest : Prop :=
  ∀ (s t : State) (line : Nat), s.gateOpen → s.ime = true → line < 5 →
    (s.raw 0xFFFF &&& s.raw 0xFF0F).getLsbD line = true →
    (∀ j < line, (s.raw 0xFFFF &&& s.raw 0xFF0F).getLsbD j = false) →
    s.sp.toNat ≤ 0xFE00 → 2 ≤ s.sp.toNat → step s = .next t →
    s.latch = some (BitVec.ofNat 16 (0x40 + 8 * line)) ∧ t.pc = BitVec.ofNat 16 (0x40 + 8 * line) ∧
      t.ime = false ∧ t.latch = none ∧
      (∀ j < 8, j ≠ line → (s.raw 0xFF0F).getLsbD j = true → (t.raw 0xFF0F).getLsbD j = true) ∧
      ((t.raw 0xFF0F).getLsbD line = true → line ≤ 1 ∧ s.lcdOn = true ∧ s.nextEvent ≤ s.elapsed + 16)

/-- An undefined opcode (R314, R400): the status becomes the terminal fault with the address and value of the opcode, `PC`
moves past it, and no register, flag, byte or clock changes, nor does the timing check run. The model's choice: that step
answers a next state, and the step after it, whatever one host move comes between, answers the fault by name (logs 10,
11). -/
def Obligations.UndefinedFaults : Prop :=
  ∀ (s : State) (op : Byte), s.gateOpen → s.idles = false → s.dispatches = false → read s s.pc = op →
    op ∈ ([0xD3, 0xDB, 0xDD, 0xE3, 0xE4, 0xEB, 0xEC, 0xED, 0xF4, 0xFC, 0xFD] : List Byte) →
    step s = .next { s with halted := false, pc := s.pc + 1, status := .faulted s.pc op } ∧
    ∀ m t, State.hostMove m { s with halted := false, pc := s.pc + 1, status := .faulted s.pc op } = some t →
      step t = .fault (.decodeFailure s.pc op)

/-- The meanings of the 11 undefined rows: each answers the state whose status is the decode failure at the byte before
`PC` (R314; the answer as a next state is log 11). -/
def Obligations.UndefinedRowsRaise : Prop :=
  ∀ s : State,
    exec .undefined_D3 s = .next { s with status := .faulted (s.pc - 1) 0xD3 } ∧
    exec .undefined_DB s = .next { s with status := .faulted (s.pc - 1) 0xDB } ∧
    exec .undefined_DD s = .next { s with status := .faulted (s.pc - 1) 0xDD } ∧
    exec .undefined_E3 s = .next { s with status := .faulted (s.pc - 1) 0xE3 } ∧
    exec .undefined_E4 s = .next { s with status := .faulted (s.pc - 1) 0xE4 } ∧
    exec .undefined_EB s = .next { s with status := .faulted (s.pc - 1) 0xEB } ∧
    exec .undefined_EC s = .next { s with status := .faulted (s.pc - 1) 0xEC } ∧
    exec .undefined_ED s = .next { s with status := .faulted (s.pc - 1) 0xED } ∧
    exec .undefined_F4 s = .next { s with status := .faulted (s.pc - 1) 0xF4 } ∧
    exec .undefined_FC s = .next { s with status := .faulted (s.pc - 1) 0xFC } ∧
    exec .undefined_FD s = .next { s with status := .faulted (s.pc - 1) 0xFD }

/-- `STOP` (R313): its meaning is the status `Refused(STOP, a0)`, whatever its second byte; in a step `PC` has moved by 2,
the clock has not, and no host move opens the gate again. The model's choice: that step answers a next state, and the step
after it, whatever one host move comes between, answers the refusal by name (logs 10, 11). -/
def Obligations.StopRefuses : Prop :=
  ∀ (s : State) (n : Byte),
    encode (.stop n) = [0x10, n] ∧
    exec (.stop n) s = .next { s with status := .refusedStop (s.pc - 2) } ∧
    (s.gateOpen → s.idles = false → s.dispatches = false → read s s.pc = 0x10 →
      step s = .next { s with halted := false, pc := s.pc + 2, status := .refusedStop s.pc } ∧
      ∀ m t, State.hostMove m { s with halted := false, pc := s.pc + 2, status := .refusedStop s.pc } = some t →
        step t = .refused (.stopExecuted s.pc))

/-- The clock (R431, R434, R480): a step that does not end the run adds 4 to 24 units, a multiple of 4; one that ends it
adds none. -/
def Obligations.StepAdvancesClock : Prop :=
  ∀ s t : State, step s = .next t →
    (t.status = .running → ∃ c, t.elapsed = s.elapsed + c ∧ 4 ≤ c ∧ c ≤ 24 ∧ c % 4 = 0) ∧
    (t.status ≠ .running → t.elapsed = s.elapsed)

/-- No step and no host move ever changes a byte below 0x8000 (R111, R462). -/
def Obligations.RomNeverChanges : Prop :=
  (∀ s t : State, step s = .next t → ∀ k < 0x8000, t.raw k = s.raw k) ∧
  (∀ (s t : State) (m : HostMove), s.hostMove m = some t → ∀ k < 0x8000, t.raw k = s.raw k)

/-- Which instructions change the master enable and the low-power mode: `EI`, `RETI` and `DI` the one, `HALT` the other, and
no other instruction either (R29, R30, R311, R312, R315). -/
def Obligations.ModeBitsChangers : Prop :=
  ∀ (i : Instr) (s t : State), exec i s = .next t →
    t.ime = (if i = .ei ∨ i = .reti then true else if i = .di then false else s.ime) ∧
    t.halted = (if i = .halt then true else s.halted)

/-- Only the instructions of R215's rows write `F`: every other one leaves it (R28, R170, R215, R290). -/
def Obligations.FlagsChangers : Prop :=
  ∀ (i : Instr) (s t : State), ¬ writesFlags i → exec i s = .next t → t.f = s.f

/-- A step changes the rendered lines only where it is the h-blank transition of a visible line (R49, R348, R350, R384): the LCD
was on, the line in pixel-transfer and its event due; the line stays, the mode becomes h-blank and the event moves on by
204. Then only that line's row changes, to the row R370 composes from the memory, caches, palettes and flags the timing
check sees, which it leaves as they are. No host move (log 15) changes a row. -/
def Obligations.LinesChangeAtHblankOnly : Prop :=
  (∀ s t : State, step s = .next t → t.lines ≠ s.lines →
    s.lcdOn = true ∧ s.mode = .pixelTransfer ∧ s.scanline < 144 ∧ s.nextEvent ≤ t.elapsed ∧
    t.lcdOn = true ∧ t.mode = .hblank ∧ t.scanline = s.scanline ∧ t.nextEvent = s.nextEvent + 204 ∧
    t.lines.getD s.scanline [] = composeLine t s.scanline ∧
    ∀ ly, ly ≠ s.scanline → t.lines.getD ly [] = s.lines.getD ly []) ∧
  (∀ (s t : State) (m : HostMove), s.hostMove m = some t → t.lines = s.lines)

/-! ## 8-bit loads -/

/-- `LD r,r'`, `LD r,n` and `LD r,(HL)`: the destination takes the value, nothing else changes but the clock (R171, R172,
R173). -/
def Obligations.RegisterLoads : Prop :=
  (∀ (dst src : R8) (s : State),
    encode (Instr.ofLd (.reg dst) (.reg src)) = [byteOf (0x40 + 8 * dst.code + src.code)] ∧
    ∃ t, exec (Instr.ofLd (.reg dst) (.reg src)) s = .next t ∧ t.r8 dst = s.r8 src ∧ t.elapsed = s.elapsed + 4 ∧
      Keeps [.reg dst] s t ∧ SameMemory s t) ∧
  (∀ (dst : R8) (n : Byte) (s : State),
    encode (Instr.ofLdImm (.reg dst) n) = [byteOf (0x06 + 8 * dst.code), n] ∧
    ∃ t, exec (Instr.ofLdImm (.reg dst) n) s = .next t ∧ t.r8 dst = n ∧ t.elapsed = s.elapsed + 8 ∧
      Keeps [.reg dst] s t ∧ SameMemory s t) ∧
  (∀ (dst : R8) (s : State),
    encode (Instr.ofLd (.reg dst) .memHL) = [byteOf (0x46 + 8 * dst.code)] ∧
    ∃ t, exec (Instr.ofLd (.reg dst) .memHL) s = .next t ∧ t.r8 dst = read s (mk16 s.h s.l) ∧
      t.elapsed = s.elapsed + 8 ∧ Keeps [.reg dst] s t ∧ SameMemory s t)

/-- The loads of `A` through a pointer (R176, R177, R180, R182, R184, R187, R189): the byte at the address, the old `HL`
for the post-modified forms, and then `HL` changed by exactly 1. -/
def Obligations.AccumulatorLoads : Prop :=
  ∀ s : State,
    (encode .ld_A_mBC = [0x0A] ∧
      exec .ld_A_mBC s = .next { s with a := read s (mk16 s.b s.c), elapsed := s.elapsed + 8 }) ∧
    (encode .ld_A_mDE = [0x1A] ∧
      exec .ld_A_mDE s = .next { s with a := read s (mk16 s.d s.e), elapsed := s.elapsed + 8 }) ∧
    (∀ nn : Word, encode (.ld_A_mnn nn) = [0xFA, nn.extractLsb' 0 8, nn.extractLsb' 8 8] ∧
      exec (.ld_A_mnn nn) s = .next { s with a := read s nn, elapsed := s.elapsed + 16 }) ∧
    (∀ n : Byte, encode (.ldh_A_mn n) = [0xF0, n] ∧
      exec (.ldh_A_mn n) s = .next { s with a := read s (0xFF00 + n.setWidth 16), elapsed := s.elapsed + 12 }) ∧
    (encode .ld_A_mC = [0xF2] ∧
      exec .ld_A_mC s = .next { s with a := read s (0xFF00 + s.c.setWidth 16), elapsed := s.elapsed + 8 }) ∧
    (encode .ld_A_mHLI = [0x2A] ∧
      exec .ld_A_mHLI s =
        .next { s with
          a := read s (mk16 s.h s.l), h := (mk16 s.h s.l + 1).extractLsb' 8 8, l := (mk16 s.h s.l + 1).extractLsb' 0 8
          elapsed := s.elapsed + 8 }) ∧
    (encode .ld_A_mHLD = [0x3A] ∧
      exec .ld_A_mHLD s =
        .next { s with
          a := read s (mk16 s.h s.l), h := (mk16 s.h s.l - 1).extractLsb' 8 8, l := (mk16 s.h s.l - 1).extractLsb' 0 8
          elapsed := s.elapsed + 8 })

/-- The stores of one byte (R174, R175, R178, R179, R181, R183, R185, R186, R188): one `Write` of the register or the
immediate at the address, and for the post-modified forms the change of `HL`, whether or not the write was dropped. -/
def Obligations.ByteStores : Prop :=
  ∀ s : State,
    (∀ r : R8, encode (Instr.ofLd .memHL (.reg r)) = [byteOf (0x70 + r.code)] ∧
      exec (Instr.ofLd .memHL (.reg r)) s = .next { write (mk16 s.h s.l) (s.r8 r) s with elapsed := s.elapsed + 8 }) ∧
    (∀ n : Byte, encode (.ld_mHL_n n) = [0x36, n] ∧
      exec (.ld_mHL_n n) s = .next { write (mk16 s.h s.l) n s with elapsed := s.elapsed + 12 }) ∧
    (encode .ld_mBC_A = [0x02] ∧
      exec .ld_mBC_A s = .next { write (mk16 s.b s.c) s.a s with elapsed := s.elapsed + 8 }) ∧
    (encode .ld_mDE_A = [0x12] ∧
      exec .ld_mDE_A s = .next { write (mk16 s.d s.e) s.a s with elapsed := s.elapsed + 8 }) ∧
    (∀ nn : Word, encode (.ld_mnn_A nn) = [0xEA, nn.extractLsb' 0 8, nn.extractLsb' 8 8] ∧
      exec (.ld_mnn_A nn) s = .next { write nn s.a s with elapsed := s.elapsed + 16 }) ∧
    (∀ n : Byte, encode (.ldh_mn_A n) = [0xE0, n] ∧
      exec (.ldh_mn_A n) s = .next { write (0xFF00 + n.setWidth 16) s.a s with elapsed := s.elapsed + 12 }) ∧
    (encode .ld_mC_A = [0xE2] ∧
      exec .ld_mC_A s = .next { write (0xFF00 + s.c.setWidth 16) s.a s with elapsed := s.elapsed + 8 }) ∧
    (encode .ld_mHLI_A = [0x22] ∧
      exec .ld_mHLI_A s =
        .next { write (mk16 s.h s.l) s.a s with
          h := (mk16 s.h s.l + 1).extractLsb' 8 8, l := (mk16 s.h s.l + 1).extractLsb' 0 8
          elapsed := s.elapsed + 8 }) ∧
    (encode .ld_mHLD_A = [0x32] ∧
      exec .ld_mHLD_A s =
        .next { write (mk16 s.h s.l) s.a s with
          h := (mk16 s.h s.l - 1).extractLsb' 8 8, l := (mk16 s.h s.l - 1).extractLsb' 0 8
          elapsed := s.elapsed + 8 })

/-- The frame of the stores of one byte: every part of the state is kept but `HL` in the post-modified forms, and every byte
reads as before outside those a store to the address may change, the address being the one the meaning uses. -/
def Obligations.ByteStoreFrame : Prop :=
  ∀ s t : State,
    (∀ r : R8, exec (Instr.ofLd .memHL (.reg r)) s = .next t → Keeps [] s t ∧ BytesKept [s.hl] s t) ∧
    (∀ n : Byte, exec (.ld_mHL_n n) s = .next t → Keeps [] s t ∧ BytesKept [s.hl] s t) ∧
    (∀ p : Ptr, exec (ofStoreA p) s = .next t → Keeps (ptrChanges p) s t ∧ BytesKept [s.ptrAddr p] s t)

/-! ## 16-bit loads, the stack -/

/-- `LD rr,nn`, `LD SP,HL`, `LD HL,SP+e` and `LD (nn),SP` (R201, R202, R203, R204). -/
def Obligations.PairLoads : Prop :=
  ∀ s : State,
    (∀ nn : Word,
      encode (.ld_BC_nn nn) = [0x01, nn.extractLsb' 0 8, nn.extractLsb' 8 8] ∧
      exec (.ld_BC_nn nn) s =
        .next { s with b := nn.extractLsb' 8 8, c := nn.extractLsb' 0 8, elapsed := s.elapsed + 12 } ∧
      encode (.ld_DE_nn nn) = [0x11, nn.extractLsb' 0 8, nn.extractLsb' 8 8] ∧
      exec (.ld_DE_nn nn) s =
        .next { s with d := nn.extractLsb' 8 8, e := nn.extractLsb' 0 8, elapsed := s.elapsed + 12 } ∧
      encode (.ld_HL_nn nn) = [0x21, nn.extractLsb' 0 8, nn.extractLsb' 8 8] ∧
      exec (.ld_HL_nn nn) s =
        .next { s with h := nn.extractLsb' 8 8, l := nn.extractLsb' 0 8, elapsed := s.elapsed + 12 } ∧
      encode (.ld_SP_nn nn) = [0x31, nn.extractLsb' 0 8, nn.extractLsb' 8 8] ∧
      exec (.ld_SP_nn nn) s = .next { s with sp := nn, elapsed := s.elapsed + 12 } ∧
      encode (.ld_mnn_SP nn) = [0x08, nn.extractLsb' 0 8, nn.extractLsb' 8 8] ∧
      exec (.ld_mnn_SP nn) s =
        .next { write (nn + 1) (s.sp.extractLsb' 8 8) (write nn (s.sp.extractLsb' 0 8) s) with
          elapsed := s.elapsed + 20 }) ∧
    (encode .ld_SP_HL = [0xF9] ∧ exec .ld_SP_HL s = .next { s with sp := mk16 s.h s.l, elapsed := s.elapsed + 8 }) ∧
    (∀ e : Byte, encode (.ld_HL_SPe e) = [0xF8, e] ∧
      exec (.ld_HL_SPe e) s =
        .next { s with
          h := (s.sp + e.signExtend 16).extractLsb' 8 8, l := (s.sp + e.signExtend 16).extractLsb' 0 8
          f := flagByte false false (decide (s.sp.toNat % 16 + e.toNat % 16 > 0xF))
            (decide (s.sp.toNat % 256 + e.toNat > 0xFF))
          elapsed := s.elapsed + 12 })

/-- `PUSH rr` and `POP rr` (R205, R206, R207): the low half at the new `SP`, written first; `POP AF` clears the low nibble
of `F`. -/
def Obligations.PushAndPop : Prop :=
  ∀ s : State,
    (∀ rr : R16Stk, encode (Instr.ofPush rr) = [byteOf (0xC5 + 16 * rr.code)] ∧
      exec (Instr.ofPush rr) s =
        .next { write (s.sp - 1) ((s.r16stk rr).extractLsb' 8 8)
            (write (s.sp - 2) ((s.r16stk rr).extractLsb' 0 8) { s with sp := s.sp - 2 }) with
          elapsed := s.elapsed + 16 }) ∧
    (∀ rr : R16Stk, encode (Instr.ofPop rr) = [byteOf (0xC1 + 16 * rr.code)]) ∧
    exec .pop_BC s =
      .next { s with b := read s (s.sp + 1), c := read s s.sp, sp := s.sp + 2, elapsed := s.elapsed + 12 } ∧
    exec .pop_DE s =
      .next { s with d := read s (s.sp + 1), e := read s s.sp, sp := s.sp + 2, elapsed := s.elapsed + 12 } ∧
    exec .pop_HL s =
      .next { s with h := read s (s.sp + 1), l := read s s.sp, sp := s.sp + 2, elapsed := s.elapsed + 12 } ∧
    exec .pop_AF s =
      .next { s with a := read s (s.sp + 1), f := read s s.sp &&& 0xF0, sp := s.sp + 2, elapsed := s.elapsed + 12 }

/-- The frame of the stores of two bytes: `PUSH`, `CALL`, `RST` and `LD (nn),SP` change `SP` and `PC` as their rules say and
no other part, and every byte reads as before outside those that stores to their two addresses may change. -/
def Obligations.WordStoreFrame : Prop :=
  ∀ s t : State,
    (∀ rr : R16Stk, exec (Instr.ofPush rr) s = .next t → Keeps [.sp] s t ∧ BytesKept [s.sp - 2, s.sp - 2 + 1] s t) ∧
    (∀ nn : Word, exec (.call_nn nn) s = .next t → Keeps [.sp, .pc] s t ∧ BytesKept [s.sp - 2, s.sp - 2 + 1] s t) ∧
    (∀ (cc : Cond) (nn : Word), exec (Instr.ofCallCond cc nn) s = .next t →
      Keeps [.sp, .pc] s t ∧ BytesKept [s.sp - 2, s.sp - 2 + 1] s t ∧
        (s.cond cc = false → Keeps [] s t ∧ SameMemory s t)) ∧
    (∀ y : Fin 8, exec (Instr.ofRst y) s = .next t → Keeps [.sp, .pc] s t ∧ BytesKept [s.sp - 2, s.sp - 2 + 1] s t) ∧
    (∀ nn : Word, exec (.ld_mnn_SP nn) s = .next t → Keeps [] s t ∧ BytesKept [nn, nn + 1] s t)

/-- What is pushed is popped: with both stack bytes at addresses that store plainly, `PUSH` then `POP` moves a pair (`AF`
with its low nibble cleared), and `CALL` then `RET` comes back behind the call with `SP` as it was. -/
def Obligations.StackRoundTrip : Prop :=
  ∀ s : State, storesPlainly (s.sp - 2) = true → storesPlainly (s.sp - 1) = true →
    (∀ from_ to_ : R16Stk, ∃ t u, exec (Instr.ofPush from_) s = .next t ∧ exec (Instr.ofPop to_) t = .next u ∧
      u.sp = s.sp ∧ u.r16stk to_ = (if to_ = .af then s.r16stk from_ &&& 0xFFF0 else s.r16stk from_)) ∧
    (∀ nn : Word, ∃ t u, exec (.call_nn nn) s = .next t ∧ exec .ret t = .next u ∧ t.pc = nn ∧ u.pc = s.pc ∧ u.sp = s.sp)

/-! ## 8-bit arithmetic and logic -/

/-- `ADD A,x` and `ADC A,x` in all three operand forms, with the 9-bit sum and the nibble sum of R217 and R218. -/
def Obligations.AddAndAdc : Prop :=
  ∀ (x : AluSrc) (s : State),
    encode (ofAluSrc .add x) = aluBytes .add x ∧ encode (ofAluSrc .adc x) = aluBytes .adc x ∧
    (let sum : BitVec 9 := s.a.setWidth 9 + (s.aluSrc x).setWidth 9
     exec (ofAluSrc .add x) s =
      .next { s with
        a := sum.setWidth 8
        f := flagByte (sum.setWidth 8 == 0#8) false (decide ((s.a &&& 0xF).toNat + (s.aluSrc x &&& 0xF).toNat > 0xF))
          (sum.getLsbD 8)
        elapsed := s.elapsed + (match x with | .loc (.reg _) => 4 | .loc .memHL => 8 | .imm _ => 8) }) ∧
    (let carry : Nat := if s.f.getLsbD 4 then 1 else 0
     let sum : BitVec 9 := s.a.setWidth 9 + (s.aluSrc x).setWidth 9 + BitVec.ofNat 9 carry
     exec (ofAluSrc .adc x) s =
      .next { s with
        a := sum.setWidth 8
        f := flagByte (sum.setWidth 8 == 0#8) false
          (decide ((s.a &&& 0xF).toNat + (s.aluSrc x &&& 0xF).toNat + carry > 0xF)) (sum.getLsbD 8)
        elapsed := s.elapsed + (match x with | .loc (.reg _) => 4 | .loc .memHL => 8 | .imm _ => 8) })

/-- `SUB A,x`, `SBC A,x` and `CP A,x` in all three operand forms (R219, R220, R224): the difference as an integer, taken
modulo 256, and the borrows as comparisons of integers; `CP` leaves `A`. -/
def Obligations.SubtractAndCompare : Prop :=
  ∀ (x : AluSrc) (s : State),
    encode (ofAluSrc .sub x) = aluBytes .sub x ∧ encode (ofAluSrc .sbc x) = aluBytes .sbc x ∧
    encode (ofAluSrc .cp x) = aluBytes .cp x ∧
    (let v : Int := (s.aluSrc x).toNat
     let diff : Int := s.a.toNat - v
     let half : Int := (s.a.toNat % 16 : Nat) - ((s.aluSrc x).toNat % 16 : Nat)
     let borrow : Int := if s.f.getLsbD 4 then 1 else 0
     let cost : Nat := match x with | .loc (.reg _) => 4 | .loc .memHL => 8 | .imm _ => 8
     exec (ofAluSrc .sub x) s =
      .next { s with
        a := BitVec.ofInt 8 diff, f := flagByte (decide (diff = 0)) true (decide (half < 0)) (decide (diff < 0))
        elapsed := s.elapsed + cost } ∧
     exec (ofAluSrc .cp x) s =
      .next { s with
        f := flagByte (decide (s.a = s.aluSrc x)) true (decide (half < 0)) (decide (diff < 0))
        elapsed := s.elapsed + cost } ∧
     exec (ofAluSrc .sbc x) s =
      .next { s with
        a := BitVec.ofInt 8 (diff - borrow)
        f := flagByte (decide (BitVec.ofInt 8 (diff - borrow) = 0)) true (decide (half - borrow < 0))
          (decide (diff - borrow < 0))
        elapsed := s.elapsed + cost })

/-- `AND A,x`, `XOR A,x` and `OR A,x` in all three operand forms (R221, R222, R223). -/
def Obligations.LogicalOperations : Prop :=
  ∀ (x : AluSrc) (s : State),
    encode (ofAluSrc .and x) = aluBytes .and x ∧ encode (ofAluSrc .xor x) = aluBytes .xor x ∧
    encode (ofAluSrc .or x) = aluBytes .or x ∧
    (let v := s.aluSrc x
     let cost : Nat := match x with | .loc (.reg _) => 4 | .loc .memHL => 8 | .imm _ => 8
     exec (ofAluSrc .and x) s =
      .next { s with a := s.a &&& v, f := flagByte (s.a &&& v == 0) false true false, elapsed := s.elapsed + cost } ∧
     exec (ofAluSrc .xor x) s =
      .next { s with a := s.a ^^^ v, f := flagByte (s.a ^^^ v == 0) false false false, elapsed := s.elapsed + cost } ∧
     exec (ofAluSrc .or x) s =
      .next { s with a := s.a ||| v, f := flagByte (s.a ||| v == 0) false false false, elapsed := s.elapsed + cost })

/-- `INC` and `DEC` of a register and of `(HL)` (R225, R226, R227, R228): `Cf` kept, the flags from the computed value even
where the write was dropped or masked. -/
def Obligations.IncrementAndDecrement : Prop :=
  ∀ s : State,
    (∀ r : R8, encode (Instr.ofInc (.reg r)) = [byteOf (0x04 + 8 * r.code)] ∧
      ∃ t, exec (Instr.ofInc (.reg r)) s = .next t ∧ t.r8 r = s.r8 r + 1 ∧
        t.f = flagByte (decide (s.r8 r = 0xFF)) false (decide (s.r8 r &&& 0xF = 0xF)) (s.f.getLsbD 4) ∧
        t.elapsed = s.elapsed + 4 ∧ Keeps [.reg r, .flags] s t ∧ SameMemory s t) ∧
    (∀ r : R8, encode (Instr.ofDec (.reg r)) = [byteOf (0x05 + 8 * r.code)] ∧
      ∃ t, exec (Instr.ofDec (.reg r)) s = .next t ∧ t.r8 r = s.r8 r - 1 ∧
        t.f = flagByte (decide (s.r8 r = 1)) true (decide (s.r8 r &&& 0xF = 0)) (s.f.getLsbD 4) ∧
        t.elapsed = s.elapsed + 4 ∧ Keeps [.reg r, .flags] s t ∧ SameMemory s t) ∧
    (let v := read s (mk16 s.h s.l)
     encode .inc_mHL = [0x34] ∧
     exec .inc_mHL s =
      .next { write (mk16 s.h s.l) (v + 1) s with
        f := flagByte (decide (v = 0xFF)) false (decide (v &&& 0xF = 0xF)) (s.f.getLsbD 4)
        elapsed := s.elapsed + 12 } ∧
     encode .dec_mHL = [0x35] ∧
     exec .dec_mHL s =
      .next { write (mk16 s.h s.l) (v - 1) s with
        f := flagByte (decide (v = 1)) true (decide (v &&& 0xF = 0)) (s.f.getLsbD 4)
        elapsed := s.elapsed + 12 })

/-- `DAA` by its two branches (R229): after an addition the correction tests the nibble, the byte and the flags as they were;
after a subtraction only the flags; N kept, H cleared, C never cleared. -/
def Obligations.DecimalAdjust : Prop :=
  ∀ s : State, encode .daa = [0x27] ∧ ∃ t, exec .daa s = .next t ∧
    (s.f.getLsbD 6 = false →
      t.a = s.a + (if s.f.getLsbD 5 = true ∨ (s.a &&& 0xF).toNat > 9 then 0x06 else 0) +
        (if s.f.getLsbD 4 = true ∨ s.a.toNat > 0x99 then 0x60 else 0) ∧
      t.f.getLsbD 4 = (s.f.getLsbD 4 || decide (s.a.toNat > 0x99))) ∧
    (s.f.getLsbD 6 = true →
      t.a = s.a - (if s.f.getLsbD 5 = true then 0x06 else 0) - (if s.f.getLsbD 4 = true then 0x60 else 0) ∧
      t.f.getLsbD 4 = s.f.getLsbD 4) ∧
    t.f.getLsbD 7 = (t.a == 0) ∧ t.f.getLsbD 6 = s.f.getLsbD 6 ∧ t.f.getLsbD 5 = false ∧ t.f &&& 0x0F = 0 ∧
    t.elapsed = s.elapsed + 4 ∧ Keeps [.reg .a, .flags] s t ∧ SameMemory s t

/-- What `DAA` is for: on two-digit decimal bytes, `ADD A,n` then `DAA` is addition modulo 100 with the decimal carry in C,
and `SUB A,n` then `DAA` is subtraction modulo 100 with the decimal borrow in C. -/
def Obligations.DecimalArithmetic : Prop :=
  ∀ (s : State) (x1 x0 y1 y0 : Nat), x1 < 10 → x0 < 10 → y1 < 10 → y0 < 10 → s.a = byteOf (16 * x1 + x0) →
    (∃ t u, exec (.add_A_n (byteOf (16 * y1 + y0))) s = .next t ∧ exec .daa t = .next u ∧
      u.a = byteOf (16 * ((10 * x1 + x0 + (10 * y1 + y0)) % 100 / 10) + (10 * x1 + x0 + (10 * y1 + y0)) % 10) ∧
      u.f.getLsbD 4 = decide (100 ≤ 10 * x1 + x0 + (10 * y1 + y0))) ∧
    (∃ t u, exec (.sub_A_n (byteOf (16 * y1 + y0))) s = .next t ∧ exec .daa t = .next u ∧
      u.a = byteOf (16 * ((100 + (10 * x1 + x0) - (10 * y1 + y0)) % 100 / 10) +
        (100 + (10 * x1 + x0) - (10 * y1 + y0)) % 10) ∧
      u.f.getLsbD 4 = decide (10 * x1 + x0 < 10 * y1 + y0))

/-- `CPL`, `SCF` and `CCF` (R230, R231, R232). -/
def Obligations.ComplementAndCarry : Prop :=
  ∀ s : State,
    (encode .cpl = [0x2F] ∧
      exec .cpl s =
        .next { s with
          a := ~~~s.a, f := flagByte (s.f.getLsbD 7) true true (s.f.getLsbD 4), elapsed := s.elapsed + 4 }) ∧
    (encode .scf = [0x37] ∧
      exec .scf s = .next { s with f := flagByte (s.f.getLsbD 7) false false true, elapsed := s.elapsed + 4 }) ∧
    (encode .ccf = [0x3F] ∧
      exec .ccf s =
        .next { s with f := flagByte (s.f.getLsbD 7) false false (!s.f.getLsbD 4), elapsed := s.elapsed + 4 })

/-! ## 16-bit arithmetic -/

/-- `ADD HL,rr`, `INC rr`, `DEC rr` and `ADD SP,e` (R251, R252, R253, R254): the 17-bit sum, H from bit 11, C from bit 15,
Z kept; no flags for `INC` and `DEC`; H and C from bits 3 and 7 for `ADD SP,e`. -/
def Obligations.PairArithmetic : Prop :=
  ∀ s : State,
    (∀ rr : R16, encode (Instr.ofAddHL rr) = [byteOf (0x09 + 16 * rr.code)] ∧
      (let sum : BitVec 17 := (mk16 s.h s.l).setWidth 17 + (s.r16 rr).setWidth 17
       exec (Instr.ofAddHL rr) s =
        .next { s with
          h := sum.extractLsb' 8 8, l := sum.extractLsb' 0 8
          f := flagByte (s.f.getLsbD 7) false
            (decide ((mk16 s.h s.l &&& 0xFFF).toNat + (s.r16 rr &&& 0xFFF).toNat > 0xFFF)) (sum.getLsbD 16)
          elapsed := s.elapsed + 8 })) ∧
    (∀ rr : R16, encode (Instr.ofInc16 rr) = [byteOf (0x03 + 16 * rr.code)] ∧
      exec (Instr.ofInc16 rr) s = .next { s.setR16 rr (s.r16 rr + 1) with elapsed := s.elapsed + 8 } ∧
      (s.setR16 rr (s.r16 rr + 1)).r16 rr = s.r16 rr + 1) ∧
    (∀ rr : R16, encode (Instr.ofDec16 rr) = [byteOf (0x0B + 16 * rr.code)] ∧
      exec (Instr.ofDec16 rr) s = .next { s.setR16 rr (s.r16 rr - 1) with elapsed := s.elapsed + 8 } ∧
      (s.setR16 rr (s.r16 rr - 1)).r16 rr = s.r16 rr - 1) ∧
    (∀ (rr : R16) (v : Word), SameMemory s (s.setR16 rr v) ∧
      Keeps (match rr with
        | .bc => [.reg .b, .reg .c] | .de => [.reg .d, .reg .e] | .hl => [.reg .h, .reg .l] | .sp => [.sp])
        s (s.setR16 rr v)) ∧
    (∀ e : Byte, encode (.add_SP_e e) = [0xE8, e] ∧
      exec (.add_SP_e e) s =
        .next { s with
          sp := s.sp + e.signExtend 16
          f := flagByte false false (decide (s.sp.toNat % 16 + e.toNat % 16 > 0xF))
            (decide (s.sp.toNat % 256 + e.toNat > 0xFF))
          elapsed := s.elapsed + 16 })

/-! ## Control transfer -/

/-- The jumps (R291, R292, R293, R294, R295): `PC` as given or relative to the advanced `PC`; the conditional ones test Z or
C, and cost less not taken. -/
def Obligations.Jumps : Prop :=
  ∀ s : State,
    (∀ nn : Word, encode (.jp_nn nn) = [0xC3, nn.extractLsb' 0 8, nn.extractLsb' 8 8] ∧
      exec (.jp_nn nn) s = .next { s with pc := nn, elapsed := s.elapsed + 16 }) ∧
    (encode .jp_HL = [0xE9] ∧ exec .jp_HL s = .next { s with pc := mk16 s.h s.l, elapsed := s.elapsed + 4 }) ∧
    (∀ e : Byte, encode (.jr_e e) = [0x18, e] ∧
      exec (.jr_e e) s = .next { s with pc := s.pc + e.signExtend 16, elapsed := s.elapsed + 12 }) ∧
    (∀ (cc : Cond) (nn : Word),
      encode (Instr.ofJpCond cc nn) = [byteOf (0xC2 + 8 * cc.code), nn.extractLsb' 0 8, nn.extractLsb' 8 8] ∧
      exec (Instr.ofJpCond cc nn) s =
        (if s.cond cc then .next { s with pc := nn, elapsed := s.elapsed + 16 }
        else .next { s with elapsed := s.elapsed + 12 })) ∧
    (∀ (cc : Cond) (e : Byte), encode (Instr.ofJrCond cc e) = [byteOf (0x20 + 8 * cc.code), e] ∧
      exec (Instr.ofJrCond cc e) s =
        (if s.cond cc then .next { s with pc := s.pc + e.signExtend 16, elapsed := s.elapsed + 12 }
        else .next { s with elapsed := s.elapsed + 8 })) ∧
    s.cond .nz = !s.f.getLsbD 7 ∧ s.cond .z = s.f.getLsbD 7 ∧ s.cond .nc = !s.f.getLsbD 4 ∧ s.cond .c = s.f.getLsbD 4

/-- `CALL nn`, `CALL cc,nn` and `RST t` (R296, R297, R301): `PC` pushed low byte first, then `PC` set; not taken, no stack
access. -/
def Obligations.Calls : Prop :=
  ∀ s : State,
    (let pushed : State := write (s.sp - 1) (s.pc.extractLsb' 8 8)
        (write (s.sp - 2) (s.pc.extractLsb' 0 8) { s with sp := s.sp - 2 })
     (∀ nn : Word, encode (.call_nn nn) = [0xCD, nn.extractLsb' 0 8, nn.extractLsb' 8 8] ∧
       exec (.call_nn nn) s = .next { pushed with pc := nn, elapsed := s.elapsed + 24 }) ∧
     (∀ (cc : Cond) (nn : Word),
       encode (Instr.ofCallCond cc nn) = [byteOf (0xC4 + 8 * cc.code), nn.extractLsb' 0 8, nn.extractLsb' 8 8] ∧
       exec (Instr.ofCallCond cc nn) s =
        (if s.cond cc then .next { pushed with pc := nn, elapsed := s.elapsed + 24 }
        else .next { s with elapsed := s.elapsed + 12 })) ∧
     (∀ y : Fin 8, encode (Instr.ofRst y) = [byteOf (0xC7 + 8 * y.val)] ∧
       exec (Instr.ofRst y) s = .next { pushed with pc := BitVec.ofNat 16 (8 * y.val), elapsed := s.elapsed + 16 }))

/-- `RET`, `RET cc` and `RETI` (R298, R299, R300, R422): `PC` popped low byte first; `RETI` sets `IME` and restores nothing
else. -/
def Obligations.Returns : Prop :=
  ∀ s : State,
    (let back : Word := mk16 (read s (s.sp + 1)) (read s s.sp)
     (encode .ret = [0xC9] ∧
       exec .ret s = .next { s with pc := back, sp := s.sp + 2, elapsed := s.elapsed + 16 }) ∧
     (encode .reti = [0xD9] ∧
       exec .reti s = .next { s with pc := back, sp := s.sp + 2, ime := true, elapsed := s.elapsed + 16 }) ∧
     (∀ cc : Cond, encode (Instr.ofRetCond cc) = [byteOf (0xC0 + 8 * cc.code)] ∧
       exec (Instr.ofRetCond cc) s =
        (if s.cond cc then .next { s with pc := back, sp := s.sp + 2, elapsed := s.elapsed + 20 }
        else .next { s with elapsed := s.elapsed + 8 })))

/-! ## System instructions -/

/-- `NOP`, `DI`, `EI` and `HALT` (R310, R311, R312, R315): the enables act at once, so after `DI` the latch is empty and
after `EI` it holds the vector of any enabled pending request. -/
def Obligations.SystemInstructions : Prop :=
  ∀ s : State,
    (encode .nop = [0x00] ∧ exec .nop s = .next { s with elapsed := s.elapsed + 4 }) ∧
    (encode .di = [0xF3] ∧ exec .di s = .next { s with ime := false, elapsed := s.elapsed + 4 } ∧
      State.latch { s with ime := false, elapsed := s.elapsed + 4 } = none) ∧
    (encode .ei = [0xFB] ∧ exec .ei s = .next { s with ime := true, elapsed := s.elapsed + 4 } ∧
      (State.latch { s with ime := true, elapsed := s.elapsed + 4 } = none ↔
        s.raw 0xFFFF &&& s.raw 0xFF0F &&& 0x1F = 0)) ∧
    (encode .halt = [0x76] ∧ exec .halt s = .next { s with halted := true, elapsed := s.elapsed + 4 })

/-! ## Rotates, shifts, bits -/

/-- `RLCA`, `RRCA`, `RLA` and `RRA` (R261, R262, R263, R264): Z forced to 0. -/
def Obligations.AccumulatorRotates : Prop :=
  ∀ s : State,
    (encode .rlca = [0x07] ∧
      exec .rlca s =
        .next { s with a := s.a.rotateLeft 1, f := flagByte false false false (s.a.getLsbD 7), elapsed := s.elapsed + 4 }) ∧
    (encode .rrca = [0x0F] ∧
      exec .rrca s =
        .next { s with a := s.a.rotateRight 1, f := flagByte false false false (s.a.getLsbD 0), elapsed := s.elapsed + 4 }) ∧
    (encode .rla = [0x17] ∧
      exec .rla s =
        .next { s with
          a := s.a <<< 1 ||| (if s.f.getLsbD 4 then 0x01 else 0), f := flagByte false false false (s.a.getLsbD 7)
          elapsed := s.elapsed + 4 }) ∧
    (encode .rra = [0x1F] ∧
      exec .rra s =
        .next { s with
          a := s.a >>> 1 ||| (if s.f.getLsbD 4 then 0x80 else 0), f := flagByte false false false (s.a.getLsbD 0)
          elapsed := s.elapsed + 4 })

/-- The extended rotates, shifts and `SWAP` on a register and on `(HL)` (R265 to R272, R276): Z from the computed result, the
carry from the bit that left, nothing else changed but the operand. -/
def Obligations.ExtendedRotates : Prop :=
  ∀ (op : RotOp) (s : State),
    (let carry : Bool := s.f.getLsbD 4
     let res : Byte → Byte := fun x =>
       match op with
       | .rlc => x.rotateLeft 1
       | .rrc => x.rotateRight 1
       | .rl => x <<< 1 ||| (if carry then 0x01 else 0)
       | .rr => x >>> 1 ||| (if carry then 0x80 else 0)
       | .sla => x <<< 1
       | .sra => x.sshiftRight 1
       | .swap => x <<< 4 ||| x >>> 4
       | .srl => x >>> 1
     let out : Byte → Bool := fun x =>
       match op with
       | .rlc | .rl | .sla => x.getLsbD 7
       | .rrc | .rr | .sra | .srl => x.getLsbD 0
       | .swap => false
     (∀ r : R8, encode (Instr.ofRot op (.reg r)) = [0xCB, byteOf (8 * op.code + r.code)] ∧
       ∃ t, exec (Instr.ofRot op (.reg r)) s = .next t ∧ t.r8 r = res (s.r8 r) ∧
         t.f = flagByte (res (s.r8 r) == 0) false false (out (s.r8 r)) ∧ t.elapsed = s.elapsed + 8 ∧
         Keeps [.reg r, .flags] s t ∧ SameMemory s t) ∧
     (let v := read s (mk16 s.h s.l)
      encode (Instr.ofRot op .memHL) = [0xCB, byteOf (8 * op.code + 6)] ∧
      exec (Instr.ofRot op .memHL) s =
       .next { write (mk16 s.h s.l) (res v) s with
         f := flagByte (res v == 0) false false (out v), elapsed := s.elapsed + 16 }))

/-- The laws of R277, as runs of the instructions on a register: eight `RLC` or `RRC` and two `SWAP` return the byte; `RLC`
and `RRC` undo each other; nine `RL` or `RR` return the byte and the carry, and the two undo each other; eight `SLA` or
`SRL` give 0; seven `SRA` give the sign. -/
def Obligations.RotateLaws : Prop :=
  ∀ (r : R8) (s : State),
    (∃ t, execTimes 8 (Instr.ofRot .rlc (.reg r)) s = .next t ∧ t.r8 r = s.r8 r) ∧
    (∃ t, execTimes 8 (Instr.ofRot .rrc (.reg r)) s = .next t ∧ t.r8 r = s.r8 r) ∧
    (∃ t u, exec (Instr.ofRot .rlc (.reg r)) s = .next t ∧ exec (Instr.ofRot .rrc (.reg r)) t = .next u ∧
      u.r8 r = s.r8 r) ∧
    (∃ t u, exec (Instr.ofRot .rrc (.reg r)) s = .next t ∧ exec (Instr.ofRot .rlc (.reg r)) t = .next u ∧
      u.r8 r = s.r8 r) ∧
    (∃ t, execTimes 9 (Instr.ofRot .rl (.reg r)) s = .next t ∧ t.r8 r = s.r8 r ∧ t.flagC = s.flagC) ∧
    (∃ t, execTimes 9 (Instr.ofRot .rr (.reg r)) s = .next t ∧ t.r8 r = s.r8 r ∧ t.flagC = s.flagC) ∧
    (∃ t u, exec (Instr.ofRot .rl (.reg r)) s = .next t ∧ exec (Instr.ofRot .rr (.reg r)) t = .next u ∧
      u.r8 r = s.r8 r ∧ u.flagC = s.flagC) ∧
    (∃ t u, exec (Instr.ofRot .rr (.reg r)) s = .next t ∧ exec (Instr.ofRot .rl (.reg r)) t = .next u ∧
      u.r8 r = s.r8 r ∧ u.flagC = s.flagC) ∧
    (∃ t, execTimes 8 (Instr.ofRot .sla (.reg r)) s = .next t ∧ t.r8 r = 0) ∧
    (∃ t, execTimes 8 (Instr.ofRot .srl (.reg r)) s = .next t ∧ t.r8 r = 0) ∧
    (∃ t, execTimes 7 (Instr.ofRot .sra (.reg r)) s = .next t ∧
      t.r8 r = if (s.r8 r).getLsbD 7 then 0xFF else 0) ∧
    (∃ t, execTimes 2 (Instr.ofRot .swap (.reg r)) s = .next t ∧ t.r8 r = s.r8 r)

/-- `BIT b,x`, `RES b,x` and `SET b,x` on a register and on `(HL)` (R273, R274, R275, R276): `BIT` writes only flags, with
`Cf` kept; the other two write one bit and no flag. -/
def Obligations.BitOperations : Prop :=
  ∀ (b : Fin 8) (s : State),
    (∀ x : Loc8, encode (Instr.ofBit b x) = [0xCB, byteOf (0x40 + 8 * b.val + x.code)] ∧
      exec (Instr.ofBit b x) s =
        .next { s with
          f := flagByte (!(s.loc8 x).getLsbD b.val) false true (s.f.getLsbD 4)
          elapsed := s.elapsed + (match x with | .reg _ => 8 | .memHL => 12) }) ∧
    (∀ r : R8, encode (Instr.ofRes b (.reg r)) = [0xCB, byteOf (0x80 + 8 * b.val + r.code)] ∧
      ∃ t, exec (Instr.ofRes b (.reg r)) s = .next t ∧ (t.r8 r).getLsbD b.val = false ∧
        (∀ j, j ≠ b.val → (t.r8 r).getLsbD j = (s.r8 r).getLsbD j) ∧ t.elapsed = s.elapsed + 8 ∧
        Keeps [.reg r] s t ∧ SameMemory s t) ∧
    (∀ r : R8, encode (Instr.ofSet b (.reg r)) = [0xCB, byteOf (0xC0 + 8 * b.val + r.code)] ∧
      ∃ t, exec (Instr.ofSet b (.reg r)) s = .next t ∧ (t.r8 r).getLsbD b.val = true ∧
        (∀ j, j ≠ b.val → (t.r8 r).getLsbD j = (s.r8 r).getLsbD j) ∧ t.elapsed = s.elapsed + 8 ∧
        Keeps [.reg r] s t ∧ SameMemory s t) ∧
    (encode (Instr.ofRes b .memHL) = [0xCB, byteOf (0x86 + 8 * b.val)] ∧
      exec (Instr.ofRes b .memHL) s =
        .next { write (mk16 s.h s.l) (read s (mk16 s.h s.l) &&& ~~~(1#8 <<< b.val)) s with elapsed := s.elapsed + 16 }) ∧
    (encode (Instr.ofSet b .memHL) = [0xCB, byteOf (0xC6 + 8 * b.val)] ∧
      exec (Instr.ofSet b .memHL) s =
        .next { write (mk16 s.h s.l) (read s (mk16 s.h s.l) ||| 1#8 <<< b.val) s with elapsed := s.elapsed + 16 })

/-- The frame of the read-modify-writes on `(HL)`: only the flags their rules name, and only the bytes a store to `HL` may
change; `BIT` stores nothing. -/
def Obligations.ReadModifyWriteFrame : Prop :=
  ∀ s t : State,
    ((exec .inc_mHL s = .next t ∨ exec .dec_mHL s = .next t ∨ ∃ op, exec (Instr.ofRot op .memHL) s = .next t) →
      Keeps [.flags] s t ∧ BytesKept [s.hl] s t) ∧
    ((∃ b, exec (Instr.ofRes b .memHL) s = .next t ∨ exec (Instr.ofSet b .memHL) s = .next t) →
      Keeps [] s t ∧ BytesKept [s.hl] s t) ∧
    ((∃ b, exec (Instr.ofBit b .memHL) s = .next t) → Keeps [.flags] s t ∧ SameMemory s t)

/-! ## Memory and the picture unit -/

/-- `Write` by region, where it does no more than store, or less (R61, R63, R65, R71, R74, R101, R111): dropped below 0x8000
and at LY, the stored byte alone at every address without a handler, bits 6:3 at STAT, the select bits at P1. -/
def Obligations.WriteByRegion : Prop :=
  ∀ (k : Word) (v : Byte) (s : State),
    (k < 0x8000 → write k v s = s) ∧
    (uninterceptedAddr k = true → write k v s = s.setRaw k.toNat v) ∧
    write 0xFF44 v s = s ∧
    write 0xFF41 v s = s.setRaw 0xFF41 ((s.raw 0xFF41 &&& ~~~0x78) ||| (v &&& 0x78)) ∧
    write 0xFF00 v s =
      s.setRaw 0xFF00 (0xC0 ||| (v &&& 0x30) |||
        ((if v.getLsbD 4 then 0xF else s.joypad.extractLsb' 0 4) &&&
          (if v.getLsbD 5 then 0xF else s.joypad.extractLsb' 4 4) : BitVec 4).setWidth 8)

/-- A byte reads back: after a store at an address that stores plainly the byte reads as stored and every other byte as
before; a 16-bit store there reads back low byte first (R113, R114, R115). -/
def Obligations.ReadAfterWrite : Prop :=
  ∀ (k : Word) (s : State), storesPlainly k = true →
    (∀ (v : Byte) (x : Word), read (write k v s) x = if x = k then v else read s x) ∧
    (storesPlainly (k + 1) = true → ∀ w : Word,
      read16 (write16 k w s) k = w ∧ read (write16 k w s) k = w.extractLsb' 0 8 ∧
        read (write16 k w s) (k + 1) = w.extractLsb' 8 8)

/-- The OAM DMA (R368): after a store of `v` to the DMA register the 160 bytes of OAM are those of page `v` as `Read` gives
them with the register already holding `v`, which it then reads as (R76); the sprite table is decoded from them, and nothing
else of the state changes; the same store again changes nothing (the source's idempotence). -/
def Obligations.OamDmaCopies : Prop :=
  ∀ (v : Byte) (s : State), MemoryInv s → s.sprites.length = 40 →
    (let t := write 0xFF46 v s
     (∀ k < 160, read t (0xFE00 + BitVec.ofNat 16 k) = read (s.setRaw 0xFF46 v) (mk16 v 0 + BitVec.ofNat 16 k)) ∧
     read t 0xFF46 = v ∧
     (∀ i < 40, t.sprite i = t.memSprite i) ∧
     (∀ x : Word, storeTouches 0xFF46 x = false → read t x = read s x) ∧
     t = { s with mem := t.mem, sprites := t.sprites } ∧
     write 0xFF46 v t = t)

/-- A tile row is the two bit-planes written, whatever their order (R360): with `lo` at the even and `hi` at the odd address
of row `r` of tile `n`, column `q` is `{hi[7-q], lo[7-q]}`, and no other row changes. -/
def Obligations.TileRowDecode : Prop :=
  ∀ (n r : Nat) (lo hi : Byte) (s : State), n < 384 → r < 8 → ShapeInv s →
    (let even : Word := BitVec.ofNat 16 (0x8000 + 16 * n + 2 * r)
     let t := write (even + 1) hi (write even lo s)
     (∀ q < 8, t.tilePixel n r q = BitVec.ofBool (hi.getLsbD (7 - q)) ++ BitVec.ofBool (lo.getLsbD (7 - q))) ∧
     (∀ q < 8, (write even lo (write (even + 1) hi s)).tilePixel n r q = t.tilePixel n r q) ∧
     (∀ n' r', ¬ (n' = n ∧ r' = r) → t.cachedTileRow n' r' = s.cachedTileRow n' r'))

/-- The stores to LCDC and LYC (R340, R341, R342, R346): the flags are the bits of the stored byte; an edge of bit 7 restarts
or stops the scanline machine and refreshes STAT, no edge leaves both; a store to LYC refreshes STAT; no interrupt is
requested and no line drawn. -/
def Obligations.LcdRegisterStores : Prop :=
  ∀ (v : Byte) (s : State),
    (let t := write 0xFF40 v s
     let equal : Byte := if s.raw 0xFF45 = 0 then 4 else 0
     (t.raw 0xFF40 = v ∧ t.bgOn = v.getLsbD 0 ∧ t.spriteOn = v.getLsbD 1 ∧
       t.bgMap = (if v.getLsbD 3 then .at9C00 else .at9800) ∧ t.tileUnsigned = v.getLsbD 4 ∧ t.winOn = v.getLsbD 5 ∧
       t.winMap = (if v.getLsbD 6 then .at9C00 else .at9800) ∧ t.lcdOn = v.getLsbD 7) ∧
     (s.lcdOn = false → v.getLsbD 7 = true →
       t.scanline = 0 ∧ t.mode = .spriteSearch ∧ t.nextEvent = s.elapsed + 80 ∧
       t.raw 0xFF41 = s.raw 0xFF41 &&& 0xF8 ||| equal ||| 2) ∧
     (s.lcdOn = true → v.getLsbD 7 = false →
       t.scanline = 0 ∧ t.mode = .hblank ∧ t.nextEvent = s.nextEvent ∧ read t 0xFF44 = 0 ∧
       t.raw 0xFF41 = s.raw 0xFF41 &&& 0xF8 ||| equal) ∧
     (s.lcdOn = v.getLsbD 7 →
       t.scanline = s.scanline ∧ t.mode = s.mode ∧ t.nextEvent = s.nextEvent ∧ t.raw 0xFF41 = s.raw 0xFF41) ∧
     (∀ k, k ≠ 0xFF40 → k ≠ 0xFF41 → t.raw k = s.raw k) ∧
     t.tiles = s.tiles ∧ t.sprites = s.sprites ∧ t.palBg = s.palBg ∧ t.palObj0 = s.palObj0 ∧ t.palObj1 = s.palObj1 ∧
     Keeps [] s t ∧ t.elapsed = s.elapsed) ∧
    (let t := write 0xFF45 v s
     let equal : Byte := if s.scanline = v.toNat then 4 else 0
     let m : Byte :=
       if s.lcdOn = false then 0
       else if 144 ≤ s.scanline then 1
       else match s.mode with | .hblank => 0 | .spriteSearch => 2 | .pixelTransfer => 3
     t.raw 0xFF45 = v ∧ t.raw 0xFF41 = s.raw 0xFF41 &&& 0xF8 ||| equal ||| m ∧
     (∀ k, k ≠ 0xFF45 → k ≠ 0xFF41 → t.raw k = s.raw k) ∧ t = { s with mem := t.mem })

/-- A store to a palette register (R366): entry `i` of the palette becomes bits `2i+1 : 2i` of the byte, and nothing else
changes but the byte. -/
def Obligations.PaletteDecode : Prop :=
  ∀ (v : Byte) (s : State),
    (let p : Palette :=
       { p0 := v.extractLsb' 0 2, p1 := v.extractLsb' 2 2, p2 := v.extractLsb' 4 2, p3 := v.extractLsb' 6 2 }
     write 0xFF47 v s = { s.setRaw 0xFF47 v with palBg := p } ∧
     write 0xFF48 v s = { s.setRaw 0xFF48 v with palObj0 := p } ∧
     write 0xFF49 v s = { s.setRaw 0xFF49 v with palObj1 := p } ∧
     p.shade 0 = p.p0 ∧ p.shade 1 = p.p1 ∧ p.shade 2 = p.p2 ∧ p.shade 3 = p.p3)

/-- The timing check (R348 to R354): nothing while the LCD is off or no event is due; else one transition by scanline and
mode, each adding its duration to the old event time, with exactly these requests; bit 3 of STAT gates the pixel-transfer
request (log 3). -/
def Obligations.TimingTransitions : Prop :=
  ∀ s : State,
    (let t := ppuTimingCheck s
     let stat := s.raw 0xFF41
     let asked := s.raw 0xFF0F
     let compare : Byte := if t.scanline = (s.raw 0xFF45).toNat ∧ stat.getLsbD 6 = true then 2 else 0
     let search : Byte := if stat.getLsbD 5 then 2 else 0
     ((s.lcdOn = false ∨ s.elapsed < s.nextEvent) → t = s) ∧
     (s.lcdOn = true → s.nextEvent ≤ s.elapsed →
       (∀ k, k ≠ 0xFF0F → k ≠ 0xFF41 → t.raw k = s.raw k) ∧
       t.raw 0xFF41 = stat &&& 0xF8 ||| (if t.scanline = (s.raw 0xFF45).toNat then 4 else 0) |||
         (if 144 ≤ t.scanline then 1
          else match t.mode with | .hblank => 0 | .spriteSearch => 2 | .pixelTransfer => 3) ∧
       t = { s with mem := t.mem, mode := t.mode, scanline := t.scanline, nextEvent := t.nextEvent, lines := t.lines } ∧
       (s.scanline < 144 → s.mode = .spriteSearch →
         t.mode = .pixelTransfer ∧ t.scanline = s.scanline ∧ t.nextEvent = s.nextEvent + 172 ∧ t.lines = s.lines ∧
         t.raw 0xFF0F = asked ||| (if stat.getLsbD 3 then 2 else 0)) ∧
       (s.scanline < 144 → s.mode = .pixelTransfer →
         t.mode = .hblank ∧ t.scanline = s.scanline ∧ t.nextEvent = s.nextEvent + 204 ∧
         t.lines = s.lines.set s.scanline (composeLine s s.scanline) ∧ t.raw 0xFF0F = asked) ∧
       (s.scanline < 143 → s.mode = .hblank →
         t.mode = .spriteSearch ∧ t.scanline = s.scanline + 1 ∧ t.nextEvent = s.nextEvent + 80 ∧ t.lines = s.lines ∧
         t.raw 0xFF0F = asked ||| search ||| compare) ∧
       (s.scanline = 143 → s.mode = .hblank →
         t.mode = .hblank ∧ t.scanline = 144 ∧ t.nextEvent = s.nextEvent + 456 ∧ t.lines = s.lines ∧
         t.raw 0xFF0F = asked ||| 1 ||| compare) ∧
       (144 ≤ s.scanline → s.scanline < 153 →
         t.mode = s.mode ∧ t.scanline = s.scanline + 1 ∧ t.nextEvent = s.nextEvent + 456 ∧ t.lines = s.lines ∧
         t.raw 0xFF0F = asked ||| compare) ∧
       (s.scanline = 153 →
         t.mode = .spriteSearch ∧ t.scanline = 0 ∧ t.nextEvent = s.nextEvent + 80 ∧ t.lines = s.lines ∧
         t.raw 0xFF0F = asked ||| search ||| compare)))

/-- Every pixel of a rendered line, layer by layer (R370 to R376). `planes` is what background and window make of what lies
under them: nothing in the margins; the window, where it is on and reached, hides it with every colour; the scrolled,
wrapping background with every colour but 0. Under them lies the top opaque "behind" sprite, else `pal_bg[0]`; over them
the top opaque front sprite; with sprites off there is neither. No other line changes. -/
def Obligations.BackgroundAndWindow : Prop :=
  ∀ (s : State) (ly k : Nat), ly < 144 → k < 176 → s.lines.length = 144 →
    (let tile : Byte → Nat := fun n => if s.tileUnsigned then n.toNat else (256 + n.toInt).toNat
     let plane : TileMap → Nat → Nat → Colour := fun m x y =>
       s.tilePixel (tile (s.raw ((match m with | .at9800 => 0x9800 | .at9C00 => 0x9C00) + 32 * (y / 8) + x / 8)))
         (y % 8) (x % 8)
     let scrolled := plane s.bgMap ((k - 8 + (s.raw 0xFF43).toNat) % 256) ((ly + (s.raw 0xFF42).toNat) % 256)
     let planes : Shade → Shade := fun under =>
       if k < 8 ∨ 168 ≤ k then under
       else if s.winOn = true ∧ (s.raw 0xFF4A).toNat ≤ ly ∧ (s.raw 0xFF4B).toNat ≤ k - 8 + 7 then
         s.palBg.shade (plane s.winMap (k - 8 + 7 - (s.raw 0xFF4B).toNat) (ly - (s.raw 0xFF4A).toNat))
       else if s.bgOn = true ∧ scrolled ≠ 0 then s.palBg.shade scrolled
       else under
     let pixel := ((renderLine ly s).lines.getD ly []).getD k 0
     (s.spriteOn = false → pixel = planes s.palBg.p0) ∧
     (s.spriteOn = true →
       (∀ w, s.TopSprite ly k false w → pixel = s.spriteShade ly w.2 k) ∧
       (s.NoSpriteAt ly k false →
         (∀ w, s.TopSprite ly k true w → pixel = planes (s.spriteShade ly w.2 k)) ∧
         (s.NoSpriteAt ly k true → pixel = planes s.palBg.p0)))) ∧
    ∀ j, j ≠ ly → (renderLine ly s).lines.getD j [] = s.lines.getD j []

/-- One pass of sprites (R374, R375): the sprites drawn are exactly those of the pass that cover the line, with no limit; a
pixel no sprite covers opaquely stays; of the opaque ones the larger `x` shows, and among equal `x` the lower OAM index. -/
def Obligations.SpritePriority : Prop :=
  ∀ (s : State) (ly k : Nat) (behind : Bool) (row : List Shade), row.length = 176 → k < 176 →
    (∀ p : Nat × Sprite, p ∈ spritesOfLine s ly behind ↔
      p.1 < 40 ∧ p.2 = s.sprite p.1 ∧ p.2.behind = behind ∧ p.2.y.toNat ≤ ly + 16 ∧ ly + 16 < p.2.y.toNat + 8) ∧
    ((∀ p ∈ spritesOfLine s ly behind, s.spriteColour ly p.2 k = 0) →
      (drawSprites s ly behind row).getD k 0 = row.getD k 0) ∧
    (∀ w ∈ spritesOfLine s ly behind, s.spriteColour ly w.2 k ≠ 0 →
      (∀ q ∈ spritesOfLine s ly behind, s.spriteColour ly q.2 k ≠ 0 →
        q.2.x.toNat < w.2.x.toNat ∨ (q.2.x = w.2.x ∧ w.1 ≤ q.1)) →
      (drawSprites s ly behind row).getD k 0 =
        (if w.2.pal then s.palObj1 else s.palObj0).shade (s.spriteColour ly w.2 k))

/-! ## The host, power-on, invariants -/

/-- `SetJoypad(new)` and `GetJoypad()` (R441): P1 shows the keys of the selected groups, and line 4 is requested exactly when
a key of a selected group goes down. -/
def Obligations.SetJoypad : Prop :=
  ∀ (new : Byte) (s : State), ∃ t, s.hostMove (.setJoypad new) = some t ∧
    t.joypad = new ∧ t.getJoypad = new ∧
    t.raw 0xFF00 = 0xC0 ||| (s.raw 0xFF00 &&& 0x30) |||
      ((if (s.raw 0xFF00).getLsbD 4 then 0xF else new.extractLsb' 0 4) &&&
        (if (s.raw 0xFF00).getLsbD 5 then 0xF else new.extractLsb' 4 4) : BitVec 4).setWidth 8 ∧
    ((∃ k < 8, s.joypad.getLsbD k = true ∧ new.getLsbD k = false ∧
        (s.raw 0xFF00).getLsbD (if k < 4 then 4 else 5) = false) →
      t.raw 0xFF0F = s.raw 0xFF0F ||| 0x10) ∧
    ((∀ k < 8, s.joypad.getLsbD k = true → new.getLsbD k = false →
        (s.raw 0xFF00).getLsbD (if k < 4 then 4 else 5) = true) →
      t.raw 0xFF0F = s.raw 0xFF0F) ∧
    (∀ k, k ≠ 0xFF00 → k ≠ 0xFF0F → t.raw k = s.raw k) ∧ t = { s with mem := t.mem, joypad := new }

/-- The host's other moves and what is the host's alone (R23, R41, R42, R450, R452): the budget is raised or left and never
lowered; no host move writes a CPU register, the clock or the status; a step leaves the budget, `ended` and the joypad. The
model's choice: the moves are a function apart from the step, none where the precondition fails, the poke among them (log
15), and `End()` leaves the budget, which R450 says for the unbounded clock (log 6). -/
def Obligations.HostAndStepOwnership : Prop :=
  (∀ (s : State) (n : Nat),
    s.hostMove (.advanceBudget .max) = some { s with budget := .max } ∧
    (∀ m, s.budget = .upTo m → s.hostMove (.advanceBudget (.upTo n)) = if m ≤ n then some { s with budget := .upTo n } else none) ∧
    (s.budget = .max → s.hostMove (.advanceBudget (.upTo n)) = none) ∧
    s.hostMove .endRun = some { s with ended := true } ∧
    ∀ k v, s.hostMove (.poke k v) = some (write k v s)) ∧
  (∀ (s t : State) (m : HostMove), s.hostMove m = some t →
    Keeps [.budget, .ended, .joypad] s t ∧ t.elapsed = s.elapsed ∧ (s.ended = true → t.ended = true) ∧
      ∀ n, t.budget = .upTo n → ∃ k ≤ n, s.budget = .upTo k) ∧
  (∀ s t : State, step s = .next t → t.budget = s.budget ∧ t.ended = s.ended ∧ t.joypad = s.joypad)

/-- Power-on (R52, R460, R462 to R465): an empty or oversize image gives no machine; any other gives every value R52 lists, with
the image verbatim from address 0, the bytes of the table of R464, P1 = 0xFF, STAT = 0x06 and 0x00 in every other byte. The
values of the table, of `INIT_RAM` and of `JOYPAD0` are the spec's parameters, fixed by the model (logs 2, 4, 5). The last two
clauses are about `State.reset`, the model's choice for no image placed (log 1): it differs from a power-on state in the ROM
region only, and reads `INIT_RAM` there. -/
def Obligations.PowerOnState : Prop :=
  let listed : State → Prop := fun s =>
    s.af = 0x01B0 ∧ s.bc = 0x0013 ∧ s.de = 0x00D8 ∧ s.hl = 0x014D ∧ s.sp = 0xFFFE ∧ s.pc = 0x0100 ∧ s.ime = false ∧
    s.halted = false ∧ s.status = .running ∧ s.elapsed = 0 ∧ s.budget = .upTo 0 ∧ s.ended = false ∧ s.joypad = 0xFF ∧
    (∀ k, 0x8000 ≤ k → k < 0xFF00 → s.raw k = 0) ∧
    (let table : List (Nat × Byte) :=
        [(0xFF05, 0x00), (0xFF06, 0x00), (0xFF07, 0x00), (0xFF10, 0x80), (0xFF11, 0xBF), (0xFF12, 0xF3), (0xFF14, 0xBF),
         (0xFF16, 0x3F), (0xFF17, 0x00), (0xFF19, 0xBF), (0xFF1A, 0x7F), (0xFF1B, 0xFF), (0xFF1C, 0x9F), (0xFF1E, 0xBF),
         (0xFF20, 0xFF), (0xFF21, 0x00), (0xFF22, 0x00), (0xFF23, 0xBF), (0xFF24, 0x77), (0xFF25, 0xF3), (0xFF26, 0xF1),
         (0xFF40, 0x91), (0xFF42, 0x00), (0xFF43, 0x00), (0xFF45, 0x00), (0xFF47, 0xFC), (0xFF48, 0xFF), (0xFF49, 0xFF),
         (0xFF4A, 0x00), (0xFF4B, 0x00), (0xFFFF, 0x00)]
     (∀ p ∈ table, s.raw p.1 = p.2) ∧ s.raw 0xFF00 = 0xFF ∧ s.raw 0xFF41 = 0x06 ∧ s.raw 0xFF0F = 0 ∧
     ∀ k, 0xFF00 < k → k ≠ 0xFF41 → (∀ p ∈ table, k ≠ p.1) → s.raw k = 0) ∧
    s.lcdOn = true ∧ s.bgOn = true ∧ s.spriteOn = false ∧ s.winOn = false ∧ s.tileUnsigned = true ∧ s.bgMap = .at9800 ∧
    s.winMap = .at9800 ∧ s.mode = .spriteSearch ∧ s.scanline = 0 ∧ s.nextEvent = 80 ∧ s.latch = none ∧
    s.tiles = List.replicate 384 (List.replicate 8 (List.replicate 8 0)) ∧ s.sprites = List.replicate 40 Sprite.zero ∧
    s.palBg = ⟨0, 3, 3, 3⟩ ∧ s.palObj0 = ⟨3, 3, 3, 3⟩ ∧ s.palObj1 = ⟨3, 3, 3, 3⟩ ∧
    s.lines = List.replicate 144 (List.replicate 176 0)
  (∀ rom : List Byte, State.powerOn rom = none ↔ rom = [] ∨ 0x8000 < rom.length) ∧
  (∀ (rom : List Byte) (s : State), State.powerOn rom = some s →
    listed s ∧ (∀ k < rom.length, s.raw k = rom.getD k 0) ∧ (∀ k, rom.length ≤ k → k < 0x8000 → s.raw k = 0) ∧
      s = { State.reset with mem := s.mem } ∧ ∀ k, rom.length ≤ k → s.raw k = State.reset.raw k) ∧
  (listed State.reset ∧ ∀ k < 0x8000, State.reset.raw k = 0)

/-- `State.reset`, the model's state after power-on with no ROM image placed (log 1) and with the parameters at their defaults
(logs 2, 4, 5), is coherent: canonical memory, caches and registers agreeing with it, the clock ahead. -/
def Obligations.ResetCoherent : Prop := Inv State.reset

/-- The low nibble of `F` is zero after every step from a state where it is (R27), after each instruction's meaning, and after
`POP AF` whatever was popped. -/
def Obligations.StepKeepsFlagsNibble : Prop :=
  (∀ s t : State, FlagsInv s → step s = .next t → FlagsInv t) ∧
  (∀ (i : Instr) (s t : State), FlagsInv s → exec i s = .next t → FlagsInv t) ∧
  (∀ s t : State, exec .pop_AF s = .next t → FlagsInv t)

/-- Every step keeps every invariant, from every coherent state: canonical memory; tile cache, sprite table and palettes those
of the bytes in memory; LCDC's flags, STAT's low bits and P1 current; the scanline in range and the next event within one
line. So does every host move (log 15). -/
def Obligations.StepKeepsCoherence : Prop :=
  (∀ s t : State, Inv s → step s = .next t → Inv t) ∧
  (∀ (s t : State) (m : HostMove), Inv s → s.hostMove m = some t → Inv t)

/-- Every state that some run from power-on reaches is coherent, whatever the ROM and whatever the host does between the steps
(log 15). A faulted or refused status, once there, stays (R31): no step follows, and every host move keeps it. -/
def Obligations.ReachableCoherent : Prop :=
  ∀ s : State, Reachable s → Inv s ∧
    (¬ s.Safe → (∀ t, step s ≠ .next t) ∧ ∀ (m : HostMove) (t : State), s.hostMove m = some t → t.status = s.status)
end

