-- ==== Sys2Proof/Laws/Memory.lean ====
section
/-! SUPPORT. The laws of the address space as data: what a byte reads as after a store, and that a store keeps the
canonical form. The first holds of every list of cells, canonical or not. -/

namespace Sys2Proof.Machine

theorem Memory.get_cell_append (addr : Nat) (v : Byte) (rest : List Host.Cell)
    (h : Memory.get rest addr = Memory.initial addr) : Memory.get (Memory.cell addr v ++ rest) addr = v := by
  unfold Memory.cell
  split
  · next hv => simpa [hv] using h
  · simp [Memory.get]

theorem Memory.get_cell_append_ne (addr b : Nat) (v : Byte) (rest : List Host.Cell) (h : b ≠ addr) :
    Memory.get (Memory.cell addr v ++ rest) b = Memory.get rest b := by
  unfold Memory.cell
  split
  · rfl
  · simp [Memory.get, h]

theorem Memory.get_drop_self (m : List Host.Cell) (addr : Nat) :
    Memory.get (Memory.drop m addr) addr = Memory.initial addr := by
  unfold Memory.drop
  induction m with
  | nil => rfl
  | cons c rest ih =>
    rw [List.filter_cons]
    split
    · next h => simp at h; simp [Memory.get, Ne.symm h, ih]
    · exact ih

theorem Memory.get_drop_ne (m : List Host.Cell) (addr b : Nat) (hb : b ≠ addr) :
    Memory.get (Memory.drop m addr) b = Memory.get m b := by
  unfold Memory.drop
  induction m with
  | nil => rfl
  | cons c rest ih =>
    rw [List.filter_cons]
    split
    · simp [Memory.get, ih]
    · next h => simp at h; simp [Memory.get, ih, h, hb]

theorem Memory.get_insert_self (m : List Host.Cell) (addr : Nat) (v : Byte)
    (h : ∀ c ∈ m, c.1 ≠ addr) : Memory.get (Memory.insert m addr v) addr = v := by
  induction m with
  | nil => simpa [Memory.insert] using Memory.get_cell_append addr v [] rfl
  | cons c rest ih =>
    have hc : addr ≠ c.1 := fun e => h c (by simp) e.symm
    have hn : Memory.get rest addr = Memory.initial addr := by
      clear ih
      induction rest with
      | nil => rfl
      | cons d rest ih' =>
        have hd : addr ≠ d.1 := fun e => h d (by simp) e.symm
        simp only [Memory.get, hd, if_false]
        exact ih' (fun x hx => h x (by simp at hx ⊢; tauto))
    unfold Memory.insert
    split
    · exact Memory.get_cell_append addr v _ (by simp [Memory.get, hc, hn])
    · simp only [Memory.get, hc, if_false]
      exact ih (fun x hx => h x (by simp [hx]))

theorem Memory.get_insert_ne (m : List Host.Cell) (addr b : Nat) (v : Byte) (hb : b ≠ addr) :
    Memory.get (Memory.insert m addr v) b = Memory.get m b := by
  induction m with
  | nil => simpa [Memory.insert] using Memory.get_cell_append_ne addr b v [] hb
  | cons c rest ih =>
    unfold Memory.insert
    split
    · exact Memory.get_cell_append_ne addr b v _ hb
    · simp [Memory.get, ih]

/-- A byte read after a store. -/
@[simp] theorem Memory.get_set (m : List Host.Cell) (addr b : Nat) (v : Byte) :
    Memory.get (Memory.set m addr v) b = if b = addr then v else Memory.get m b := by
  unfold Memory.set
  split
  · next h =>
    subst h
    refine Memory.get_insert_self _ _ _ (fun c hc => ?_)
    simp [Memory.drop] at hc
    exact hc.2
  · next h => rw [Memory.get_insert_ne _ _ _ _ h, Memory.get_drop_ne _ _ _ h]

theorem Memory.wfFrom_mono {m : List Host.Cell} {low low' : Nat} (h : low' ≤ low) (hm : Memory.wfFrom low m = true) :
    Memory.wfFrom low' m = true := by
  cases m with
  | nil => rfl
  | cons c rest =>
    simp only [Memory.wfFrom, Bool.and_eq_true, decide_eq_true_eq] at hm ⊢
    exact ⟨⟨⟨Nat.le_trans h hm.1.1.1, hm.1.1.2⟩, hm.1.2⟩, hm.2⟩

theorem Memory.wfFrom_drop (m : List Host.Cell) (addr low : Nat) (hm : Memory.wfFrom low m = true) :
    Memory.wfFrom low (Memory.drop m addr) = true := by
  unfold Memory.drop
  induction m generalizing low with
  | nil => rfl
  | cons c rest ih =>
    simp [Memory.wfFrom] at hm
    rw [List.filter_cons]
    split
    · simp only [Memory.wfFrom, Bool.and_eq_true, decide_eq_true_eq]
      exact ⟨hm.1, ih _ hm.2⟩
    · exact Memory.wfFrom_mono (by omega) (ih _ hm.2)

theorem Memory.wfFrom_cell_append (addr low : Nat) (v : Byte) (rest : List Host.Cell) (hl : low ≤ addr)
    (ha : addr < 65536) (hr : Memory.wfFrom (addr + 1) rest = true) :
    Memory.wfFrom low (Memory.cell addr v ++ rest) = true := by
  unfold Memory.cell
  split
  · exact Memory.wfFrom_mono (by omega) hr
  · next hv => simp [Memory.wfFrom, hl, ha, hv, hr]

theorem Memory.wfFrom_insert (m : List Host.Cell) (addr low : Nat) (v : Byte) (ha : addr < 65536) (hl : low ≤ addr)
    (hn : ∀ c ∈ m, c.1 ≠ addr) (hm : Memory.wfFrom low m = true) :
    Memory.wfFrom low (Memory.insert m addr v) = true := by
  induction m generalizing low with
  | nil => simpa [Memory.insert] using Memory.wfFrom_cell_append addr low v [] hl ha rfl
  | cons c rest ih =>
    have hc : c.1 ≠ addr := hn c (by simp)
    have hm' := hm
    simp [Memory.wfFrom] at hm
    unfold Memory.insert
    split
    · next hlt =>
      refine Memory.wfFrom_cell_append addr low v _ hl ha ?_
      simp only [Memory.wfFrom, Bool.and_eq_true, decide_eq_true_eq]
      exact ⟨⟨⟨by omega, hm.1.1.2⟩, hm.1.2⟩, hm.2⟩
    · next hlt =>
      simp only [Memory.wfFrom, Bool.and_eq_true, decide_eq_true_eq]
      exact ⟨hm.1, ih (c.1 + 1) (by omega) (fun x hx => hn x (by simp [hx])) hm.2⟩

/-- A store inside the address space keeps the canonical form. -/
theorem Memory.wf_set (m : List Host.Cell) (addr : Nat) (v : Byte) (ha : addr < 65536) (hm : Memory.wf m = true) :
    Memory.wf (Memory.set m addr v) = true := by
  refine Memory.wfFrom_insert _ _ _ _ ha (Nat.zero_le _) (fun c hc => ?_) (Memory.wfFrom_drop _ _ _ hm)
  simp [Memory.drop] at hc
  exact hc.2

theorem Memory.get_below {m : List Host.Cell} {low addr : Nat} (hm : Memory.wfFrom low m = true) (h : addr < low) :
    Memory.get m addr = Memory.initial addr := by
  induction m generalizing low with
  | nil => rfl
  | cons c rest ih =>
    simp only [Memory.wfFrom, Bool.and_eq_true, decide_eq_true_eq] at hm
    have hc : addr ≠ c.1 := by omega
    simp only [Memory.get, hc, if_false]
    exact ih hm.2 (by omega)

/-- Two canonical memories that read alike are the same list. -/
theorem Memory.ext_of_wf {m n : List Host.Cell} {low : Nat} (hm : Memory.wfFrom low m = true)
    (hn : Memory.wfFrom low n = true) (h : ∀ a, Memory.get m a = Memory.get n a) : m = n := by
  induction m generalizing low n with
  | nil =>
    cases n with
    | nil => rfl
    | cons c rest =>
      simp only [Memory.wfFrom, Bool.and_eq_true, decide_eq_true_eq] at hn
      have := h c.1
      simp [Memory.get] at this
      exact absurd this.symm hn.1.2
  | cons c rest ih =>
    cases n with
    | nil =>
      simp only [Memory.wfFrom, Bool.and_eq_true, decide_eq_true_eq] at hm
      have := h c.1
      simp [Memory.get] at this
      exact absurd this hm.1.2
    | cons d tail =>
      simp only [Memory.wfFrom, Bool.and_eq_true, decide_eq_true_eq] at hm hn
      have hcd : c.1 = d.1 := by
        rcases Nat.lt_trichotomy c.1 d.1 with hlt | heq | hgt
        · have := h c.1
          simp [Memory.get, Nat.ne_of_lt hlt] at this
          rw [Memory.get_below hn.2 (by omega)] at this
          exact absurd this hm.1.2
        · exact heq
        · have := h d.1
          simp [Memory.get, Nat.ne_of_lt hgt] at this
          rw [Memory.get_below hm.2 (by omega)] at this
          exact absurd this.symm hn.1.2
      have hw : c.2 = d.2 := by
        have := h c.1
        simpa [Memory.get, hcd] using this
      obtain ⟨ca, cw⟩ := c
      obtain ⟨da, dw⟩ := d
      simp only at hcd hw
      subst hcd hw
      congr 1
      refine ih hm.2 hn.2 (fun a => ?_)
      by_cases ha : a = ca
      · subst ha
        rw [Memory.get_below hm.2 (by omega), Memory.get_below hn.2 (by omega)]
      · have := h a
        simpa [Memory.get, ha] using this

/-- The memory after reset has the canonical form. -/
theorem Memory.wf_reset : Memory.wf State.reset.mem = true := rfl

@[simp] theorem State.raw_setRaw (s : State) (addr b : Nat) (v : Byte) :
    (s.setRaw addr v).raw b = if b = addr then v else s.raw b := Memory.get_set s.mem addr b v

end Sys2Proof.Machine
end

