-- ==== Sys2Proof/Laws/State.lean ====
section
/-! SUPPORT. One lemma per field per update of the state, so that no proof unfolds a record update. -/

namespace Sys2Proof.Machine

/-! ## `State.setRaw` -/

@[simp] theorem State.setRaw_a (s : State) (k : Nat) (v : Byte) : (s.setRaw k v).a = s.a := rfl
@[simp] theorem State.setRaw_f (s : State) (k : Nat) (v : Byte) : (s.setRaw k v).f = s.f := rfl
@[simp] theorem State.setRaw_b (s : State) (k : Nat) (v : Byte) : (s.setRaw k v).b = s.b := rfl
@[simp] theorem State.setRaw_c (s : State) (k : Nat) (v : Byte) : (s.setRaw k v).c = s.c := rfl
@[simp] theorem State.setRaw_d (s : State) (k : Nat) (v : Byte) : (s.setRaw k v).d = s.d := rfl
@[simp] theorem State.setRaw_e (s : State) (k : Nat) (v : Byte) : (s.setRaw k v).e = s.e := rfl
@[simp] theorem State.setRaw_h (s : State) (k : Nat) (v : Byte) : (s.setRaw k v).h = s.h := rfl
@[simp] theorem State.setRaw_l (s : State) (k : Nat) (v : Byte) : (s.setRaw k v).l = s.l := rfl
@[simp] theorem State.setRaw_sp (s : State) (k : Nat) (v : Byte) : (s.setRaw k v).sp = s.sp := rfl
@[simp] theorem State.setRaw_pc (s : State) (k : Nat) (v : Byte) : (s.setRaw k v).pc = s.pc := rfl
@[simp] theorem State.setRaw_ime (s : State) (k : Nat) (v : Byte) : (s.setRaw k v).ime = s.ime := rfl
@[simp] theorem State.setRaw_halted (s : State) (k : Nat) (v : Byte) : (s.setRaw k v).halted = s.halted := rfl
@[simp] theorem State.setRaw_status (s : State) (k : Nat) (v : Byte) : (s.setRaw k v).status = s.status := rfl
@[simp] theorem State.setRaw_mem (s : State) (k : Nat) (v : Byte) : (s.setRaw k v).mem = Memory.set s.mem k v := rfl
@[simp] theorem State.setRaw_elapsed (s : State) (k : Nat) (v : Byte) : (s.setRaw k v).elapsed = s.elapsed := rfl
@[simp] theorem State.setRaw_budget (s : State) (k : Nat) (v : Byte) : (s.setRaw k v).budget = s.budget := rfl
@[simp] theorem State.setRaw_ended (s : State) (k : Nat) (v : Byte) : (s.setRaw k v).ended = s.ended := rfl
@[simp] theorem State.setRaw_joypad (s : State) (k : Nat) (v : Byte) : (s.setRaw k v).joypad = s.joypad := rfl
@[simp] theorem State.setRaw_lcdOn (s : State) (k : Nat) (v : Byte) : (s.setRaw k v).lcdOn = s.lcdOn := rfl
@[simp] theorem State.setRaw_bgOn (s : State) (k : Nat) (v : Byte) : (s.setRaw k v).bgOn = s.bgOn := rfl
@[simp] theorem State.setRaw_spriteOn (s : State) (k : Nat) (v : Byte) : (s.setRaw k v).spriteOn = s.spriteOn := rfl
@[simp] theorem State.setRaw_winOn (s : State) (k : Nat) (v : Byte) : (s.setRaw k v).winOn = s.winOn := rfl
@[simp] theorem State.setRaw_tileUnsigned (s : State) (k : Nat) (v : Byte) : (s.setRaw k v).tileUnsigned = s.tileUnsigned := rfl
@[simp] theorem State.setRaw_bgMap (s : State) (k : Nat) (v : Byte) : (s.setRaw k v).bgMap = s.bgMap := rfl
@[simp] theorem State.setRaw_winMap (s : State) (k : Nat) (v : Byte) : (s.setRaw k v).winMap = s.winMap := rfl
@[simp] theorem State.setRaw_mode (s : State) (k : Nat) (v : Byte) : (s.setRaw k v).mode = s.mode := rfl
@[simp] theorem State.setRaw_scanline (s : State) (k : Nat) (v : Byte) : (s.setRaw k v).scanline = s.scanline := rfl
@[simp] theorem State.setRaw_nextEvent (s : State) (k : Nat) (v : Byte) : (s.setRaw k v).nextEvent = s.nextEvent := rfl
@[simp] theorem State.setRaw_tiles (s : State) (k : Nat) (v : Byte) : (s.setRaw k v).tiles = s.tiles := rfl
@[simp] theorem State.setRaw_sprites (s : State) (k : Nat) (v : Byte) : (s.setRaw k v).sprites = s.sprites := rfl
@[simp] theorem State.setRaw_palBg (s : State) (k : Nat) (v : Byte) : (s.setRaw k v).palBg = s.palBg := rfl
@[simp] theorem State.setRaw_palObj0 (s : State) (k : Nat) (v : Byte) : (s.setRaw k v).palObj0 = s.palObj0 := rfl
@[simp] theorem State.setRaw_palObj1 (s : State) (k : Nat) (v : Byte) : (s.setRaw k v).palObj1 = s.palObj1 := rfl
@[simp] theorem State.setRaw_lines (s : State) (k : Nat) (v : Byte) : (s.setRaw k v).lines = s.lines := rfl

/-! ## `stepClock` -/

@[simp] theorem stepClock_a (s : State) (k : Nat) : (stepClock k s).a = s.a := rfl
@[simp] theorem stepClock_f (s : State) (k : Nat) : (stepClock k s).f = s.f := rfl
@[simp] theorem stepClock_b (s : State) (k : Nat) : (stepClock k s).b = s.b := rfl
@[simp] theorem stepClock_c (s : State) (k : Nat) : (stepClock k s).c = s.c := rfl
@[simp] theorem stepClock_d (s : State) (k : Nat) : (stepClock k s).d = s.d := rfl
@[simp] theorem stepClock_e (s : State) (k : Nat) : (stepClock k s).e = s.e := rfl
@[simp] theorem stepClock_h (s : State) (k : Nat) : (stepClock k s).h = s.h := rfl
@[simp] theorem stepClock_l (s : State) (k : Nat) : (stepClock k s).l = s.l := rfl
@[simp] theorem stepClock_sp (s : State) (k : Nat) : (stepClock k s).sp = s.sp := rfl
@[simp] theorem stepClock_pc (s : State) (k : Nat) : (stepClock k s).pc = s.pc := rfl
@[simp] theorem stepClock_ime (s : State) (k : Nat) : (stepClock k s).ime = s.ime := rfl
@[simp] theorem stepClock_halted (s : State) (k : Nat) : (stepClock k s).halted = s.halted := rfl
@[simp] theorem stepClock_status (s : State) (k : Nat) : (stepClock k s).status = s.status := rfl
@[simp] theorem stepClock_mem (s : State) (k : Nat) : (stepClock k s).mem = s.mem := rfl
@[simp] theorem stepClock_elapsed (s : State) (k : Nat) : (stepClock k s).elapsed = s.elapsed + k := rfl
@[simp] theorem stepClock_budget (s : State) (k : Nat) : (stepClock k s).budget = s.budget := rfl
@[simp] theorem stepClock_ended (s : State) (k : Nat) : (stepClock k s).ended = s.ended := rfl
@[simp] theorem stepClock_joypad (s : State) (k : Nat) : (stepClock k s).joypad = s.joypad := rfl
@[simp] theorem stepClock_lcdOn (s : State) (k : Nat) : (stepClock k s).lcdOn = s.lcdOn := rfl
@[simp] theorem stepClock_bgOn (s : State) (k : Nat) : (stepClock k s).bgOn = s.bgOn := rfl
@[simp] theorem stepClock_spriteOn (s : State) (k : Nat) : (stepClock k s).spriteOn = s.spriteOn := rfl
@[simp] theorem stepClock_winOn (s : State) (k : Nat) : (stepClock k s).winOn = s.winOn := rfl
@[simp] theorem stepClock_tileUnsigned (s : State) (k : Nat) : (stepClock k s).tileUnsigned = s.tileUnsigned := rfl
@[simp] theorem stepClock_bgMap (s : State) (k : Nat) : (stepClock k s).bgMap = s.bgMap := rfl
@[simp] theorem stepClock_winMap (s : State) (k : Nat) : (stepClock k s).winMap = s.winMap := rfl
@[simp] theorem stepClock_mode (s : State) (k : Nat) : (stepClock k s).mode = s.mode := rfl
@[simp] theorem stepClock_scanline (s : State) (k : Nat) : (stepClock k s).scanline = s.scanline := rfl
@[simp] theorem stepClock_nextEvent (s : State) (k : Nat) : (stepClock k s).nextEvent = s.nextEvent := rfl
@[simp] theorem stepClock_tiles (s : State) (k : Nat) : (stepClock k s).tiles = s.tiles := rfl
@[simp] theorem stepClock_sprites (s : State) (k : Nat) : (stepClock k s).sprites = s.sprites := rfl
@[simp] theorem stepClock_palBg (s : State) (k : Nat) : (stepClock k s).palBg = s.palBg := rfl
@[simp] theorem stepClock_palObj0 (s : State) (k : Nat) : (stepClock k s).palObj0 = s.palObj0 := rfl
@[simp] theorem stepClock_palObj1 (s : State) (k : Nat) : (stepClock k s).palObj1 = s.palObj1 := rfl
@[simp] theorem stepClock_lines (s : State) (k : Nat) : (stepClock k s).lines = s.lines := rfl
@[simp] theorem stepClock_raw (s : State) (k : Nat) (x : Nat) : (stepClock k s).raw x = s.raw x := rfl
@[simp] theorem stepClock_read (s : State) (k : Nat) (x : Word) : read (stepClock k s) x = read s x := rfl

/-! ## `State.setF` -/

@[simp] theorem State.setF_a (s : State) (v : Byte) : (s.setF v).a = s.a := rfl
@[simp] theorem State.setF_f (s : State) (v : Byte) : (s.setF v).f = v := rfl
@[simp] theorem State.setF_b (s : State) (v : Byte) : (s.setF v).b = s.b := rfl
@[simp] theorem State.setF_c (s : State) (v : Byte) : (s.setF v).c = s.c := rfl
@[simp] theorem State.setF_d (s : State) (v : Byte) : (s.setF v).d = s.d := rfl
@[simp] theorem State.setF_e (s : State) (v : Byte) : (s.setF v).e = s.e := rfl
@[simp] theorem State.setF_h (s : State) (v : Byte) : (s.setF v).h = s.h := rfl
@[simp] theorem State.setF_l (s : State) (v : Byte) : (s.setF v).l = s.l := rfl
@[simp] theorem State.setF_sp (s : State) (v : Byte) : (s.setF v).sp = s.sp := rfl
@[simp] theorem State.setF_pc (s : State) (v : Byte) : (s.setF v).pc = s.pc := rfl
@[simp] theorem State.setF_ime (s : State) (v : Byte) : (s.setF v).ime = s.ime := rfl
@[simp] theorem State.setF_halted (s : State) (v : Byte) : (s.setF v).halted = s.halted := rfl
@[simp] theorem State.setF_status (s : State) (v : Byte) : (s.setF v).status = s.status := rfl
@[simp] theorem State.setF_mem (s : State) (v : Byte) : (s.setF v).mem = s.mem := rfl
@[simp] theorem State.setF_elapsed (s : State) (v : Byte) : (s.setF v).elapsed = s.elapsed := rfl
@[simp] theorem State.setF_budget (s : State) (v : Byte) : (s.setF v).budget = s.budget := rfl
@[simp] theorem State.setF_ended (s : State) (v : Byte) : (s.setF v).ended = s.ended := rfl
@[simp] theorem State.setF_joypad (s : State) (v : Byte) : (s.setF v).joypad = s.joypad := rfl
@[simp] theorem State.setF_lcdOn (s : State) (v : Byte) : (s.setF v).lcdOn = s.lcdOn := rfl
@[simp] theorem State.setF_bgOn (s : State) (v : Byte) : (s.setF v).bgOn = s.bgOn := rfl
@[simp] theorem State.setF_spriteOn (s : State) (v : Byte) : (s.setF v).spriteOn = s.spriteOn := rfl
@[simp] theorem State.setF_winOn (s : State) (v : Byte) : (s.setF v).winOn = s.winOn := rfl
@[simp] theorem State.setF_tileUnsigned (s : State) (v : Byte) : (s.setF v).tileUnsigned = s.tileUnsigned := rfl
@[simp] theorem State.setF_bgMap (s : State) (v : Byte) : (s.setF v).bgMap = s.bgMap := rfl
@[simp] theorem State.setF_winMap (s : State) (v : Byte) : (s.setF v).winMap = s.winMap := rfl
@[simp] theorem State.setF_mode (s : State) (v : Byte) : (s.setF v).mode = s.mode := rfl
@[simp] theorem State.setF_scanline (s : State) (v : Byte) : (s.setF v).scanline = s.scanline := rfl
@[simp] theorem State.setF_nextEvent (s : State) (v : Byte) : (s.setF v).nextEvent = s.nextEvent := rfl
@[simp] theorem State.setF_tiles (s : State) (v : Byte) : (s.setF v).tiles = s.tiles := rfl
@[simp] theorem State.setF_sprites (s : State) (v : Byte) : (s.setF v).sprites = s.sprites := rfl
@[simp] theorem State.setF_palBg (s : State) (v : Byte) : (s.setF v).palBg = s.palBg := rfl
@[simp] theorem State.setF_palObj0 (s : State) (v : Byte) : (s.setF v).palObj0 = s.palObj0 := rfl
@[simp] theorem State.setF_palObj1 (s : State) (v : Byte) : (s.setF v).palObj1 = s.palObj1 := rfl
@[simp] theorem State.setF_lines (s : State) (v : Byte) : (s.setF v).lines = s.lines := rfl
@[simp] theorem State.setF_raw (s : State) (v : Byte) (x : Nat) : (s.setF v).raw x = s.raw x := rfl
@[simp] theorem State.setF_read (s : State) (v : Byte) (x : Word) : read (s.setF v) x = read s x := rfl

/-! ## `State.setBC` -/

@[simp] theorem State.setBC_a (s : State) (v : Word) : (s.setBC v).a = s.a := rfl
@[simp] theorem State.setBC_f (s : State) (v : Word) : (s.setBC v).f = s.f := rfl
@[simp] theorem State.setBC_b (s : State) (v : Word) : (s.setBC v).b = hi8 v := rfl
@[simp] theorem State.setBC_c (s : State) (v : Word) : (s.setBC v).c = lo8 v := rfl
@[simp] theorem State.setBC_d (s : State) (v : Word) : (s.setBC v).d = s.d := rfl
@[simp] theorem State.setBC_e (s : State) (v : Word) : (s.setBC v).e = s.e := rfl
@[simp] theorem State.setBC_h (s : State) (v : Word) : (s.setBC v).h = s.h := rfl
@[simp] theorem State.setBC_l (s : State) (v : Word) : (s.setBC v).l = s.l := rfl
@[simp] theorem State.setBC_sp (s : State) (v : Word) : (s.setBC v).sp = s.sp := rfl
@[simp] theorem State.setBC_pc (s : State) (v : Word) : (s.setBC v).pc = s.pc := rfl
@[simp] theorem State.setBC_ime (s : State) (v : Word) : (s.setBC v).ime = s.ime := rfl
@[simp] theorem State.setBC_halted (s : State) (v : Word) : (s.setBC v).halted = s.halted := rfl
@[simp] theorem State.setBC_status (s : State) (v : Word) : (s.setBC v).status = s.status := rfl
@[simp] theorem State.setBC_mem (s : State) (v : Word) : (s.setBC v).mem = s.mem := rfl
@[simp] theorem State.setBC_elapsed (s : State) (v : Word) : (s.setBC v).elapsed = s.elapsed := rfl
@[simp] theorem State.setBC_budget (s : State) (v : Word) : (s.setBC v).budget = s.budget := rfl
@[simp] theorem State.setBC_ended (s : State) (v : Word) : (s.setBC v).ended = s.ended := rfl
@[simp] theorem State.setBC_joypad (s : State) (v : Word) : (s.setBC v).joypad = s.joypad := rfl
@[simp] theorem State.setBC_lcdOn (s : State) (v : Word) : (s.setBC v).lcdOn = s.lcdOn := rfl
@[simp] theorem State.setBC_bgOn (s : State) (v : Word) : (s.setBC v).bgOn = s.bgOn := rfl
@[simp] theorem State.setBC_spriteOn (s : State) (v : Word) : (s.setBC v).spriteOn = s.spriteOn := rfl
@[simp] theorem State.setBC_winOn (s : State) (v : Word) : (s.setBC v).winOn = s.winOn := rfl
@[simp] theorem State.setBC_tileUnsigned (s : State) (v : Word) : (s.setBC v).tileUnsigned = s.tileUnsigned := rfl
@[simp] theorem State.setBC_bgMap (s : State) (v : Word) : (s.setBC v).bgMap = s.bgMap := rfl
@[simp] theorem State.setBC_winMap (s : State) (v : Word) : (s.setBC v).winMap = s.winMap := rfl
@[simp] theorem State.setBC_mode (s : State) (v : Word) : (s.setBC v).mode = s.mode := rfl
@[simp] theorem State.setBC_scanline (s : State) (v : Word) : (s.setBC v).scanline = s.scanline := rfl
@[simp] theorem State.setBC_nextEvent (s : State) (v : Word) : (s.setBC v).nextEvent = s.nextEvent := rfl
@[simp] theorem State.setBC_tiles (s : State) (v : Word) : (s.setBC v).tiles = s.tiles := rfl
@[simp] theorem State.setBC_sprites (s : State) (v : Word) : (s.setBC v).sprites = s.sprites := rfl
@[simp] theorem State.setBC_palBg (s : State) (v : Word) : (s.setBC v).palBg = s.palBg := rfl
@[simp] theorem State.setBC_palObj0 (s : State) (v : Word) : (s.setBC v).palObj0 = s.palObj0 := rfl
@[simp] theorem State.setBC_palObj1 (s : State) (v : Word) : (s.setBC v).palObj1 = s.palObj1 := rfl
@[simp] theorem State.setBC_lines (s : State) (v : Word) : (s.setBC v).lines = s.lines := rfl
@[simp] theorem State.setBC_raw (s : State) (v : Word) (x : Nat) : (s.setBC v).raw x = s.raw x := rfl
@[simp] theorem State.setBC_read (s : State) (v : Word) (x : Word) : read (s.setBC v) x = read s x := rfl

/-! ## `State.setDE` -/

@[simp] theorem State.setDE_a (s : State) (v : Word) : (s.setDE v).a = s.a := rfl
@[simp] theorem State.setDE_f (s : State) (v : Word) : (s.setDE v).f = s.f := rfl
@[simp] theorem State.setDE_b (s : State) (v : Word) : (s.setDE v).b = s.b := rfl
@[simp] theorem State.setDE_c (s : State) (v : Word) : (s.setDE v).c = s.c := rfl
@[simp] theorem State.setDE_d (s : State) (v : Word) : (s.setDE v).d = hi8 v := rfl
@[simp] theorem State.setDE_e (s : State) (v : Word) : (s.setDE v).e = lo8 v := rfl
@[simp] theorem State.setDE_h (s : State) (v : Word) : (s.setDE v).h = s.h := rfl
@[simp] theorem State.setDE_l (s : State) (v : Word) : (s.setDE v).l = s.l := rfl
@[simp] theorem State.setDE_sp (s : State) (v : Word) : (s.setDE v).sp = s.sp := rfl
@[simp] theorem State.setDE_pc (s : State) (v : Word) : (s.setDE v).pc = s.pc := rfl
@[simp] theorem State.setDE_ime (s : State) (v : Word) : (s.setDE v).ime = s.ime := rfl
@[simp] theorem State.setDE_halted (s : State) (v : Word) : (s.setDE v).halted = s.halted := rfl
@[simp] theorem State.setDE_status (s : State) (v : Word) : (s.setDE v).status = s.status := rfl
@[simp] theorem State.setDE_mem (s : State) (v : Word) : (s.setDE v).mem = s.mem := rfl
@[simp] theorem State.setDE_elapsed (s : State) (v : Word) : (s.setDE v).elapsed = s.elapsed := rfl
@[simp] theorem State.setDE_budget (s : State) (v : Word) : (s.setDE v).budget = s.budget := rfl
@[simp] theorem State.setDE_ended (s : State) (v : Word) : (s.setDE v).ended = s.ended := rfl
@[simp] theorem State.setDE_joypad (s : State) (v : Word) : (s.setDE v).joypad = s.joypad := rfl
@[simp] theorem State.setDE_lcdOn (s : State) (v : Word) : (s.setDE v).lcdOn = s.lcdOn := rfl
@[simp] theorem State.setDE_bgOn (s : State) (v : Word) : (s.setDE v).bgOn = s.bgOn := rfl
@[simp] theorem State.setDE_spriteOn (s : State) (v : Word) : (s.setDE v).spriteOn = s.spriteOn := rfl
@[simp] theorem State.setDE_winOn (s : State) (v : Word) : (s.setDE v).winOn = s.winOn := rfl
@[simp] theorem State.setDE_tileUnsigned (s : State) (v : Word) : (s.setDE v).tileUnsigned = s.tileUnsigned := rfl
@[simp] theorem State.setDE_bgMap (s : State) (v : Word) : (s.setDE v).bgMap = s.bgMap := rfl
@[simp] theorem State.setDE_winMap (s : State) (v : Word) : (s.setDE v).winMap = s.winMap := rfl
@[simp] theorem State.setDE_mode (s : State) (v : Word) : (s.setDE v).mode = s.mode := rfl
@[simp] theorem State.setDE_scanline (s : State) (v : Word) : (s.setDE v).scanline = s.scanline := rfl
@[simp] theorem State.setDE_nextEvent (s : State) (v : Word) : (s.setDE v).nextEvent = s.nextEvent := rfl
@[simp] theorem State.setDE_tiles (s : State) (v : Word) : (s.setDE v).tiles = s.tiles := rfl
@[simp] theorem State.setDE_sprites (s : State) (v : Word) : (s.setDE v).sprites = s.sprites := rfl
@[simp] theorem State.setDE_palBg (s : State) (v : Word) : (s.setDE v).palBg = s.palBg := rfl
@[simp] theorem State.setDE_palObj0 (s : State) (v : Word) : (s.setDE v).palObj0 = s.palObj0 := rfl
@[simp] theorem State.setDE_palObj1 (s : State) (v : Word) : (s.setDE v).palObj1 = s.palObj1 := rfl
@[simp] theorem State.setDE_lines (s : State) (v : Word) : (s.setDE v).lines = s.lines := rfl
@[simp] theorem State.setDE_raw (s : State) (v : Word) (x : Nat) : (s.setDE v).raw x = s.raw x := rfl
@[simp] theorem State.setDE_read (s : State) (v : Word) (x : Word) : read (s.setDE v) x = read s x := rfl

/-! ## `State.setHL` -/

@[simp] theorem State.setHL_a (s : State) (v : Word) : (s.setHL v).a = s.a := rfl
@[simp] theorem State.setHL_f (s : State) (v : Word) : (s.setHL v).f = s.f := rfl
@[simp] theorem State.setHL_b (s : State) (v : Word) : (s.setHL v).b = s.b := rfl
@[simp] theorem State.setHL_c (s : State) (v : Word) : (s.setHL v).c = s.c := rfl
@[simp] theorem State.setHL_d (s : State) (v : Word) : (s.setHL v).d = s.d := rfl
@[simp] theorem State.setHL_e (s : State) (v : Word) : (s.setHL v).e = s.e := rfl
@[simp] theorem State.setHL_h (s : State) (v : Word) : (s.setHL v).h = hi8 v := rfl
@[simp] theorem State.setHL_l (s : State) (v : Word) : (s.setHL v).l = lo8 v := rfl
@[simp] theorem State.setHL_sp (s : State) (v : Word) : (s.setHL v).sp = s.sp := rfl
@[simp] theorem State.setHL_pc (s : State) (v : Word) : (s.setHL v).pc = s.pc := rfl
@[simp] theorem State.setHL_ime (s : State) (v : Word) : (s.setHL v).ime = s.ime := rfl
@[simp] theorem State.setHL_halted (s : State) (v : Word) : (s.setHL v).halted = s.halted := rfl
@[simp] theorem State.setHL_status (s : State) (v : Word) : (s.setHL v).status = s.status := rfl
@[simp] theorem State.setHL_mem (s : State) (v : Word) : (s.setHL v).mem = s.mem := rfl
@[simp] theorem State.setHL_elapsed (s : State) (v : Word) : (s.setHL v).elapsed = s.elapsed := rfl
@[simp] theorem State.setHL_budget (s : State) (v : Word) : (s.setHL v).budget = s.budget := rfl
@[simp] theorem State.setHL_ended (s : State) (v : Word) : (s.setHL v).ended = s.ended := rfl
@[simp] theorem State.setHL_joypad (s : State) (v : Word) : (s.setHL v).joypad = s.joypad := rfl
@[simp] theorem State.setHL_lcdOn (s : State) (v : Word) : (s.setHL v).lcdOn = s.lcdOn := rfl
@[simp] theorem State.setHL_bgOn (s : State) (v : Word) : (s.setHL v).bgOn = s.bgOn := rfl
@[simp] theorem State.setHL_spriteOn (s : State) (v : Word) : (s.setHL v).spriteOn = s.spriteOn := rfl
@[simp] theorem State.setHL_winOn (s : State) (v : Word) : (s.setHL v).winOn = s.winOn := rfl
@[simp] theorem State.setHL_tileUnsigned (s : State) (v : Word) : (s.setHL v).tileUnsigned = s.tileUnsigned := rfl
@[simp] theorem State.setHL_bgMap (s : State) (v : Word) : (s.setHL v).bgMap = s.bgMap := rfl
@[simp] theorem State.setHL_winMap (s : State) (v : Word) : (s.setHL v).winMap = s.winMap := rfl
@[simp] theorem State.setHL_mode (s : State) (v : Word) : (s.setHL v).mode = s.mode := rfl
@[simp] theorem State.setHL_scanline (s : State) (v : Word) : (s.setHL v).scanline = s.scanline := rfl
@[simp] theorem State.setHL_nextEvent (s : State) (v : Word) : (s.setHL v).nextEvent = s.nextEvent := rfl
@[simp] theorem State.setHL_tiles (s : State) (v : Word) : (s.setHL v).tiles = s.tiles := rfl
@[simp] theorem State.setHL_sprites (s : State) (v : Word) : (s.setHL v).sprites = s.sprites := rfl
@[simp] theorem State.setHL_palBg (s : State) (v : Word) : (s.setHL v).palBg = s.palBg := rfl
@[simp] theorem State.setHL_palObj0 (s : State) (v : Word) : (s.setHL v).palObj0 = s.palObj0 := rfl
@[simp] theorem State.setHL_palObj1 (s : State) (v : Word) : (s.setHL v).palObj1 = s.palObj1 := rfl
@[simp] theorem State.setHL_lines (s : State) (v : Word) : (s.setHL v).lines = s.lines := rfl
@[simp] theorem State.setHL_raw (s : State) (v : Word) (x : Nat) : (s.setHL v).raw x = s.raw x := rfl
@[simp] theorem State.setHL_read (s : State) (v : Word) (x : Word) : read (s.setHL v) x = read s x := rfl

/-! ## `State.setAF` -/

@[simp] theorem State.setAF_a (s : State) (v : Word) : (s.setAF v).a = hi8 v := rfl
@[simp] theorem State.setAF_f (s : State) (v : Word) : (s.setAF v).f = lo8 v &&& 0xF0 := rfl
@[simp] theorem State.setAF_b (s : State) (v : Word) : (s.setAF v).b = s.b := rfl
@[simp] theorem State.setAF_c (s : State) (v : Word) : (s.setAF v).c = s.c := rfl
@[simp] theorem State.setAF_d (s : State) (v : Word) : (s.setAF v).d = s.d := rfl
@[simp] theorem State.setAF_e (s : State) (v : Word) : (s.setAF v).e = s.e := rfl
@[simp] theorem State.setAF_h (s : State) (v : Word) : (s.setAF v).h = s.h := rfl
@[simp] theorem State.setAF_l (s : State) (v : Word) : (s.setAF v).l = s.l := rfl
@[simp] theorem State.setAF_sp (s : State) (v : Word) : (s.setAF v).sp = s.sp := rfl
@[simp] theorem State.setAF_pc (s : State) (v : Word) : (s.setAF v).pc = s.pc := rfl
@[simp] theorem State.setAF_ime (s : State) (v : Word) : (s.setAF v).ime = s.ime := rfl
@[simp] theorem State.setAF_halted (s : State) (v : Word) : (s.setAF v).halted = s.halted := rfl
@[simp] theorem State.setAF_status (s : State) (v : Word) : (s.setAF v).status = s.status := rfl
@[simp] theorem State.setAF_mem (s : State) (v : Word) : (s.setAF v).mem = s.mem := rfl
@[simp] theorem State.setAF_elapsed (s : State) (v : Word) : (s.setAF v).elapsed = s.elapsed := rfl
@[simp] theorem State.setAF_budget (s : State) (v : Word) : (s.setAF v).budget = s.budget := rfl
@[simp] theorem State.setAF_ended (s : State) (v : Word) : (s.setAF v).ended = s.ended := rfl
@[simp] theorem State.setAF_joypad (s : State) (v : Word) : (s.setAF v).joypad = s.joypad := rfl
@[simp] theorem State.setAF_lcdOn (s : State) (v : Word) : (s.setAF v).lcdOn = s.lcdOn := rfl
@[simp] theorem State.setAF_bgOn (s : State) (v : Word) : (s.setAF v).bgOn = s.bgOn := rfl
@[simp] theorem State.setAF_spriteOn (s : State) (v : Word) : (s.setAF v).spriteOn = s.spriteOn := rfl
@[simp] theorem State.setAF_winOn (s : State) (v : Word) : (s.setAF v).winOn = s.winOn := rfl
@[simp] theorem State.setAF_tileUnsigned (s : State) (v : Word) : (s.setAF v).tileUnsigned = s.tileUnsigned := rfl
@[simp] theorem State.setAF_bgMap (s : State) (v : Word) : (s.setAF v).bgMap = s.bgMap := rfl
@[simp] theorem State.setAF_winMap (s : State) (v : Word) : (s.setAF v).winMap = s.winMap := rfl
@[simp] theorem State.setAF_mode (s : State) (v : Word) : (s.setAF v).mode = s.mode := rfl
@[simp] theorem State.setAF_scanline (s : State) (v : Word) : (s.setAF v).scanline = s.scanline := rfl
@[simp] theorem State.setAF_nextEvent (s : State) (v : Word) : (s.setAF v).nextEvent = s.nextEvent := rfl
@[simp] theorem State.setAF_tiles (s : State) (v : Word) : (s.setAF v).tiles = s.tiles := rfl
@[simp] theorem State.setAF_sprites (s : State) (v : Word) : (s.setAF v).sprites = s.sprites := rfl
@[simp] theorem State.setAF_palBg (s : State) (v : Word) : (s.setAF v).palBg = s.palBg := rfl
@[simp] theorem State.setAF_palObj0 (s : State) (v : Word) : (s.setAF v).palObj0 = s.palObj0 := rfl
@[simp] theorem State.setAF_palObj1 (s : State) (v : Word) : (s.setAF v).palObj1 = s.palObj1 := rfl
@[simp] theorem State.setAF_lines (s : State) (v : Word) : (s.setAF v).lines = s.lines := rfl
@[simp] theorem State.setAF_raw (s : State) (v : Word) (x : Nat) : (s.setAF v).raw x = s.raw x := rfl
@[simp] theorem State.setAF_read (s : State) (v : Word) (x : Word) : read (s.setAF v) x = read s x := rfl

/-! ## `wake` -/

@[simp] theorem wake_a (s : State) : (wake s).a = s.a := rfl
@[simp] theorem wake_f (s : State) : (wake s).f = s.f := rfl
@[simp] theorem wake_b (s : State) : (wake s).b = s.b := rfl
@[simp] theorem wake_c (s : State) : (wake s).c = s.c := rfl
@[simp] theorem wake_d (s : State) : (wake s).d = s.d := rfl
@[simp] theorem wake_e (s : State) : (wake s).e = s.e := rfl
@[simp] theorem wake_h (s : State) : (wake s).h = s.h := rfl
@[simp] theorem wake_l (s : State) : (wake s).l = s.l := rfl
@[simp] theorem wake_sp (s : State) : (wake s).sp = s.sp := rfl
@[simp] theorem wake_pc (s : State) : (wake s).pc = s.pc := rfl
@[simp] theorem wake_ime (s : State) : (wake s).ime = s.ime := rfl
@[simp] theorem wake_halted (s : State) : (wake s).halted = false := rfl
@[simp] theorem wake_status (s : State) : (wake s).status = s.status := rfl
@[simp] theorem wake_mem (s : State) : (wake s).mem = s.mem := rfl
@[simp] theorem wake_elapsed (s : State) : (wake s).elapsed = s.elapsed := rfl
@[simp] theorem wake_budget (s : State) : (wake s).budget = s.budget := rfl
@[simp] theorem wake_ended (s : State) : (wake s).ended = s.ended := rfl
@[simp] theorem wake_joypad (s : State) : (wake s).joypad = s.joypad := rfl
@[simp] theorem wake_lcdOn (s : State) : (wake s).lcdOn = s.lcdOn := rfl
@[simp] theorem wake_bgOn (s : State) : (wake s).bgOn = s.bgOn := rfl
@[simp] theorem wake_spriteOn (s : State) : (wake s).spriteOn = s.spriteOn := rfl
@[simp] theorem wake_winOn (s : State) : (wake s).winOn = s.winOn := rfl
@[simp] theorem wake_tileUnsigned (s : State) : (wake s).tileUnsigned = s.tileUnsigned := rfl
@[simp] theorem wake_bgMap (s : State) : (wake s).bgMap = s.bgMap := rfl
@[simp] theorem wake_winMap (s : State) : (wake s).winMap = s.winMap := rfl
@[simp] theorem wake_mode (s : State) : (wake s).mode = s.mode := rfl
@[simp] theorem wake_scanline (s : State) : (wake s).scanline = s.scanline := rfl
@[simp] theorem wake_nextEvent (s : State) : (wake s).nextEvent = s.nextEvent := rfl
@[simp] theorem wake_tiles (s : State) : (wake s).tiles = s.tiles := rfl
@[simp] theorem wake_sprites (s : State) : (wake s).sprites = s.sprites := rfl
@[simp] theorem wake_palBg (s : State) : (wake s).palBg = s.palBg := rfl
@[simp] theorem wake_palObj0 (s : State) : (wake s).palObj0 = s.palObj0 := rfl
@[simp] theorem wake_palObj1 (s : State) : (wake s).palObj1 = s.palObj1 := rfl
@[simp] theorem wake_lines (s : State) : (wake s).lines = s.lines := rfl
@[simp] theorem wake_raw (s : State) (x : Nat) : (wake s).raw x = s.raw x := rfl
@[simp] theorem wake_read (s : State) (x : Word) : read (wake s) x = read s x := rfl

/-! ## `advance` -/

@[simp] theorem advance_a (s : State) (k : Nat) : (advance k s).a = s.a := rfl
@[simp] theorem advance_f (s : State) (k : Nat) : (advance k s).f = s.f := rfl
@[simp] theorem advance_b (s : State) (k : Nat) : (advance k s).b = s.b := rfl
@[simp] theorem advance_c (s : State) (k : Nat) : (advance k s).c = s.c := rfl
@[simp] theorem advance_d (s : State) (k : Nat) : (advance k s).d = s.d := rfl
@[simp] theorem advance_e (s : State) (k : Nat) : (advance k s).e = s.e := rfl
@[simp] theorem advance_h (s : State) (k : Nat) : (advance k s).h = s.h := rfl
@[simp] theorem advance_l (s : State) (k : Nat) : (advance k s).l = s.l := rfl
@[simp] theorem advance_sp (s : State) (k : Nat) : (advance k s).sp = s.sp := rfl
@[simp] theorem advance_pc (s : State) (k : Nat) : (advance k s).pc = s.pc + BitVec.ofNat 16 k := rfl
@[simp] theorem advance_ime (s : State) (k : Nat) : (advance k s).ime = s.ime := rfl
@[simp] theorem advance_halted (s : State) (k : Nat) : (advance k s).halted = s.halted := rfl
@[simp] theorem advance_status (s : State) (k : Nat) : (advance k s).status = s.status := rfl
@[simp] theorem advance_mem (s : State) (k : Nat) : (advance k s).mem = s.mem := rfl
@[simp] theorem advance_elapsed (s : State) (k : Nat) : (advance k s).elapsed = s.elapsed := rfl
@[simp] theorem advance_budget (s : State) (k : Nat) : (advance k s).budget = s.budget := rfl
@[simp] theorem advance_ended (s : State) (k : Nat) : (advance k s).ended = s.ended := rfl
@[simp] theorem advance_joypad (s : State) (k : Nat) : (advance k s).joypad = s.joypad := rfl
@[simp] theorem advance_lcdOn (s : State) (k : Nat) : (advance k s).lcdOn = s.lcdOn := rfl
@[simp] theorem advance_bgOn (s : State) (k : Nat) : (advance k s).bgOn = s.bgOn := rfl
@[simp] theorem advance_spriteOn (s : State) (k : Nat) : (advance k s).spriteOn = s.spriteOn := rfl
@[simp] theorem advance_winOn (s : State) (k : Nat) : (advance k s).winOn = s.winOn := rfl
@[simp] theorem advance_tileUnsigned (s : State) (k : Nat) : (advance k s).tileUnsigned = s.tileUnsigned := rfl
@[simp] theorem advance_bgMap (s : State) (k : Nat) : (advance k s).bgMap = s.bgMap := rfl
@[simp] theorem advance_winMap (s : State) (k : Nat) : (advance k s).winMap = s.winMap := rfl
@[simp] theorem advance_mode (s : State) (k : Nat) : (advance k s).mode = s.mode := rfl
@[simp] theorem advance_scanline (s : State) (k : Nat) : (advance k s).scanline = s.scanline := rfl
@[simp] theorem advance_nextEvent (s : State) (k : Nat) : (advance k s).nextEvent = s.nextEvent := rfl
@[simp] theorem advance_tiles (s : State) (k : Nat) : (advance k s).tiles = s.tiles := rfl
@[simp] theorem advance_sprites (s : State) (k : Nat) : (advance k s).sprites = s.sprites := rfl
@[simp] theorem advance_palBg (s : State) (k : Nat) : (advance k s).palBg = s.palBg := rfl
@[simp] theorem advance_palObj0 (s : State) (k : Nat) : (advance k s).palObj0 = s.palObj0 := rfl
@[simp] theorem advance_palObj1 (s : State) (k : Nat) : (advance k s).palObj1 = s.palObj1 := rfl
@[simp] theorem advance_lines (s : State) (k : Nat) : (advance k s).lines = s.lines := rfl
@[simp] theorem advance_raw (s : State) (k : Nat) (x : Nat) : (advance k s).raw x = s.raw x := rfl
@[simp] theorem advance_read (s : State) (k : Nat) (x : Word) : read (advance k s) x = read s x := rfl

/-! ## `dropWord` -/

@[simp] theorem dropWord_a (s : State) : (dropWord s).a = s.a := rfl
@[simp] theorem dropWord_f (s : State) : (dropWord s).f = s.f := rfl
@[simp] theorem dropWord_b (s : State) : (dropWord s).b = s.b := rfl
@[simp] theorem dropWord_c (s : State) : (dropWord s).c = s.c := rfl
@[simp] theorem dropWord_d (s : State) : (dropWord s).d = s.d := rfl
@[simp] theorem dropWord_e (s : State) : (dropWord s).e = s.e := rfl
@[simp] theorem dropWord_h (s : State) : (dropWord s).h = s.h := rfl
@[simp] theorem dropWord_l (s : State) : (dropWord s).l = s.l := rfl
@[simp] theorem dropWord_sp (s : State) : (dropWord s).sp = s.sp + 2 := rfl
@[simp] theorem dropWord_pc (s : State) : (dropWord s).pc = s.pc := rfl
@[simp] theorem dropWord_ime (s : State) : (dropWord s).ime = s.ime := rfl
@[simp] theorem dropWord_halted (s : State) : (dropWord s).halted = s.halted := rfl
@[simp] theorem dropWord_status (s : State) : (dropWord s).status = s.status := rfl
@[simp] theorem dropWord_mem (s : State) : (dropWord s).mem = s.mem := rfl
@[simp] theorem dropWord_elapsed (s : State) : (dropWord s).elapsed = s.elapsed := rfl
@[simp] theorem dropWord_budget (s : State) : (dropWord s).budget = s.budget := rfl
@[simp] theorem dropWord_ended (s : State) : (dropWord s).ended = s.ended := rfl
@[simp] theorem dropWord_joypad (s : State) : (dropWord s).joypad = s.joypad := rfl
@[simp] theorem dropWord_lcdOn (s : State) : (dropWord s).lcdOn = s.lcdOn := rfl
@[simp] theorem dropWord_bgOn (s : State) : (dropWord s).bgOn = s.bgOn := rfl
@[simp] theorem dropWord_spriteOn (s : State) : (dropWord s).spriteOn = s.spriteOn := rfl
@[simp] theorem dropWord_winOn (s : State) : (dropWord s).winOn = s.winOn := rfl
@[simp] theorem dropWord_tileUnsigned (s : State) : (dropWord s).tileUnsigned = s.tileUnsigned := rfl
@[simp] theorem dropWord_bgMap (s : State) : (dropWord s).bgMap = s.bgMap := rfl
@[simp] theorem dropWord_winMap (s : State) : (dropWord s).winMap = s.winMap := rfl
@[simp] theorem dropWord_mode (s : State) : (dropWord s).mode = s.mode := rfl
@[simp] theorem dropWord_scanline (s : State) : (dropWord s).scanline = s.scanline := rfl
@[simp] theorem dropWord_nextEvent (s : State) : (dropWord s).nextEvent = s.nextEvent := rfl
@[simp] theorem dropWord_tiles (s : State) : (dropWord s).tiles = s.tiles := rfl
@[simp] theorem dropWord_sprites (s : State) : (dropWord s).sprites = s.sprites := rfl
@[simp] theorem dropWord_palBg (s : State) : (dropWord s).palBg = s.palBg := rfl
@[simp] theorem dropWord_palObj0 (s : State) : (dropWord s).palObj0 = s.palObj0 := rfl
@[simp] theorem dropWord_palObj1 (s : State) : (dropWord s).palObj1 = s.palObj1 := rfl
@[simp] theorem dropWord_lines (s : State) : (dropWord s).lines = s.lines := rfl
@[simp] theorem dropWord_raw (s : State) (x : Nat) : (dropWord s).raw x = s.raw x := rfl
@[simp] theorem dropWord_read (s : State) (x : Word) : read (dropWord s) x = read s x := rfl

/-! ## `raiseDecodeFailure` -/

@[simp] theorem raiseDecodeFailure_a (s : State) (k : Word) (v : Byte) : (raiseDecodeFailure k v s).a = s.a := rfl
@[simp] theorem raiseDecodeFailure_f (s : State) (k : Word) (v : Byte) : (raiseDecodeFailure k v s).f = s.f := rfl
@[simp] theorem raiseDecodeFailure_b (s : State) (k : Word) (v : Byte) : (raiseDecodeFailure k v s).b = s.b := rfl
@[simp] theorem raiseDecodeFailure_c (s : State) (k : Word) (v : Byte) : (raiseDecodeFailure k v s).c = s.c := rfl
@[simp] theorem raiseDecodeFailure_d (s : State) (k : Word) (v : Byte) : (raiseDecodeFailure k v s).d = s.d := rfl
@[simp] theorem raiseDecodeFailure_e (s : State) (k : Word) (v : Byte) : (raiseDecodeFailure k v s).e = s.e := rfl
@[simp] theorem raiseDecodeFailure_h (s : State) (k : Word) (v : Byte) : (raiseDecodeFailure k v s).h = s.h := rfl
@[simp] theorem raiseDecodeFailure_l (s : State) (k : Word) (v : Byte) : (raiseDecodeFailure k v s).l = s.l := rfl
@[simp] theorem raiseDecodeFailure_sp (s : State) (k : Word) (v : Byte) : (raiseDecodeFailure k v s).sp = s.sp := rfl
@[simp] theorem raiseDecodeFailure_pc (s : State) (k : Word) (v : Byte) : (raiseDecodeFailure k v s).pc = s.pc := rfl
@[simp] theorem raiseDecodeFailure_ime (s : State) (k : Word) (v : Byte) : (raiseDecodeFailure k v s).ime = s.ime := rfl
@[simp] theorem raiseDecodeFailure_halted (s : State) (k : Word) (v : Byte) : (raiseDecodeFailure k v s).halted = s.halted := rfl
@[simp] theorem raiseDecodeFailure_status (s : State) (k : Word) (v : Byte) : (raiseDecodeFailure k v s).status = .faulted k v := rfl
@[simp] theorem raiseDecodeFailure_mem (s : State) (k : Word) (v : Byte) : (raiseDecodeFailure k v s).mem = s.mem := rfl
@[simp] theorem raiseDecodeFailure_elapsed (s : State) (k : Word) (v : Byte) : (raiseDecodeFailure k v s).elapsed = s.elapsed := rfl
@[simp] theorem raiseDecodeFailure_budget (s : State) (k : Word) (v : Byte) : (raiseDecodeFailure k v s).budget = s.budget := rfl
@[simp] theorem raiseDecodeFailure_ended (s : State) (k : Word) (v : Byte) : (raiseDecodeFailure k v s).ended = s.ended := rfl
@[simp] theorem raiseDecodeFailure_joypad (s : State) (k : Word) (v : Byte) : (raiseDecodeFailure k v s).joypad = s.joypad := rfl
@[simp] theorem raiseDecodeFailure_lcdOn (s : State) (k : Word) (v : Byte) : (raiseDecodeFailure k v s).lcdOn = s.lcdOn := rfl
@[simp] theorem raiseDecodeFailure_bgOn (s : State) (k : Word) (v : Byte) : (raiseDecodeFailure k v s).bgOn = s.bgOn := rfl
@[simp] theorem raiseDecodeFailure_spriteOn (s : State) (k : Word) (v : Byte) : (raiseDecodeFailure k v s).spriteOn = s.spriteOn := rfl
@[simp] theorem raiseDecodeFailure_winOn (s : State) (k : Word) (v : Byte) : (raiseDecodeFailure k v s).winOn = s.winOn := rfl
@[simp] theorem raiseDecodeFailure_tileUnsigned (s : State) (k : Word) (v : Byte) : (raiseDecodeFailure k v s).tileUnsigned = s.tileUnsigned := rfl
@[simp] theorem raiseDecodeFailure_bgMap (s : State) (k : Word) (v : Byte) : (raiseDecodeFailure k v s).bgMap = s.bgMap := rfl
@[simp] theorem raiseDecodeFailure_winMap (s : State) (k : Word) (v : Byte) : (raiseDecodeFailure k v s).winMap = s.winMap := rfl
@[simp] theorem raiseDecodeFailure_mode (s : State) (k : Word) (v : Byte) : (raiseDecodeFailure k v s).mode = s.mode := rfl
@[simp] theorem raiseDecodeFailure_scanline (s : State) (k : Word) (v : Byte) : (raiseDecodeFailure k v s).scanline = s.scanline := rfl
@[simp] theorem raiseDecodeFailure_nextEvent (s : State) (k : Word) (v : Byte) : (raiseDecodeFailure k v s).nextEvent = s.nextEvent := rfl
@[simp] theorem raiseDecodeFailure_tiles (s : State) (k : Word) (v : Byte) : (raiseDecodeFailure k v s).tiles = s.tiles := rfl
@[simp] theorem raiseDecodeFailure_sprites (s : State) (k : Word) (v : Byte) : (raiseDecodeFailure k v s).sprites = s.sprites := rfl
@[simp] theorem raiseDecodeFailure_palBg (s : State) (k : Word) (v : Byte) : (raiseDecodeFailure k v s).palBg = s.palBg := rfl
@[simp] theorem raiseDecodeFailure_palObj0 (s : State) (k : Word) (v : Byte) : (raiseDecodeFailure k v s).palObj0 = s.palObj0 := rfl
@[simp] theorem raiseDecodeFailure_palObj1 (s : State) (k : Word) (v : Byte) : (raiseDecodeFailure k v s).palObj1 = s.palObj1 := rfl
@[simp] theorem raiseDecodeFailure_lines (s : State) (k : Word) (v : Byte) : (raiseDecodeFailure k v s).lines = s.lines := rfl
@[simp] theorem raiseDecodeFailure_raw (s : State) (k : Word) (v : Byte) (x : Nat) : (raiseDecodeFailure k v s).raw x = s.raw x := rfl
@[simp] theorem raiseDecodeFailure_read (s : State) (k : Word) (v : Byte) (x : Word) : read (raiseDecodeFailure k v s) x = read s x := rfl

/-! ## `refuseStop` -/

@[simp] theorem refuseStop_a (s : State) (k : Word) : (refuseStop k s).a = s.a := rfl
@[simp] theorem refuseStop_f (s : State) (k : Word) : (refuseStop k s).f = s.f := rfl
@[simp] theorem refuseStop_b (s : State) (k : Word) : (refuseStop k s).b = s.b := rfl
@[simp] theorem refuseStop_c (s : State) (k : Word) : (refuseStop k s).c = s.c := rfl
@[simp] theorem refuseStop_d (s : State) (k : Word) : (refuseStop k s).d = s.d := rfl
@[simp] theorem refuseStop_e (s : State) (k : Word) : (refuseStop k s).e = s.e := rfl
@[simp] theorem refuseStop_h (s : State) (k : Word) : (refuseStop k s).h = s.h := rfl
@[simp] theorem refuseStop_l (s : State) (k : Word) : (refuseStop k s).l = s.l := rfl
@[simp] theorem refuseStop_sp (s : State) (k : Word) : (refuseStop k s).sp = s.sp := rfl
@[simp] theorem refuseStop_pc (s : State) (k : Word) : (refuseStop k s).pc = s.pc := rfl
@[simp] theorem refuseStop_ime (s : State) (k : Word) : (refuseStop k s).ime = s.ime := rfl
@[simp] theorem refuseStop_halted (s : State) (k : Word) : (refuseStop k s).halted = s.halted := rfl
@[simp] theorem refuseStop_status (s : State) (k : Word) : (refuseStop k s).status = .refusedStop k := rfl
@[simp] theorem refuseStop_mem (s : State) (k : Word) : (refuseStop k s).mem = s.mem := rfl
@[simp] theorem refuseStop_elapsed (s : State) (k : Word) : (refuseStop k s).elapsed = s.elapsed := rfl
@[simp] theorem refuseStop_budget (s : State) (k : Word) : (refuseStop k s).budget = s.budget := rfl
@[simp] theorem refuseStop_ended (s : State) (k : Word) : (refuseStop k s).ended = s.ended := rfl
@[simp] theorem refuseStop_joypad (s : State) (k : Word) : (refuseStop k s).joypad = s.joypad := rfl
@[simp] theorem refuseStop_lcdOn (s : State) (k : Word) : (refuseStop k s).lcdOn = s.lcdOn := rfl
@[simp] theorem refuseStop_bgOn (s : State) (k : Word) : (refuseStop k s).bgOn = s.bgOn := rfl
@[simp] theorem refuseStop_spriteOn (s : State) (k : Word) : (refuseStop k s).spriteOn = s.spriteOn := rfl
@[simp] theorem refuseStop_winOn (s : State) (k : Word) : (refuseStop k s).winOn = s.winOn := rfl
@[simp] theorem refuseStop_tileUnsigned (s : State) (k : Word) : (refuseStop k s).tileUnsigned = s.tileUnsigned := rfl
@[simp] theorem refuseStop_bgMap (s : State) (k : Word) : (refuseStop k s).bgMap = s.bgMap := rfl
@[simp] theorem refuseStop_winMap (s : State) (k : Word) : (refuseStop k s).winMap = s.winMap := rfl
@[simp] theorem refuseStop_mode (s : State) (k : Word) : (refuseStop k s).mode = s.mode := rfl
@[simp] theorem refuseStop_scanline (s : State) (k : Word) : (refuseStop k s).scanline = s.scanline := rfl
@[simp] theorem refuseStop_nextEvent (s : State) (k : Word) : (refuseStop k s).nextEvent = s.nextEvent := rfl
@[simp] theorem refuseStop_tiles (s : State) (k : Word) : (refuseStop k s).tiles = s.tiles := rfl
@[simp] theorem refuseStop_sprites (s : State) (k : Word) : (refuseStop k s).sprites = s.sprites := rfl
@[simp] theorem refuseStop_palBg (s : State) (k : Word) : (refuseStop k s).palBg = s.palBg := rfl
@[simp] theorem refuseStop_palObj0 (s : State) (k : Word) : (refuseStop k s).palObj0 = s.palObj0 := rfl
@[simp] theorem refuseStop_palObj1 (s : State) (k : Word) : (refuseStop k s).palObj1 = s.palObj1 := rfl
@[simp] theorem refuseStop_lines (s : State) (k : Word) : (refuseStop k s).lines = s.lines := rfl
@[simp] theorem refuseStop_raw (s : State) (k : Word) (x : Nat) : (refuseStop k s).raw x = s.raw x := rfl
@[simp] theorem refuseStop_read (s : State) (k : Word) (x : Word) : read (refuseStop k s) x = read s x := rfl

/-! ## `State.setR8` -/

@[simp] theorem State.setR8_f (s : State) (r : R8) (v : Byte) : (s.setR8 r v).f = s.f := by cases r <;> rfl
@[simp] theorem State.setR8_sp (s : State) (r : R8) (v : Byte) : (s.setR8 r v).sp = s.sp := by cases r <;> rfl
@[simp] theorem State.setR8_pc (s : State) (r : R8) (v : Byte) : (s.setR8 r v).pc = s.pc := by cases r <;> rfl
@[simp] theorem State.setR8_ime (s : State) (r : R8) (v : Byte) : (s.setR8 r v).ime = s.ime := by cases r <;> rfl
@[simp] theorem State.setR8_halted (s : State) (r : R8) (v : Byte) : (s.setR8 r v).halted = s.halted := by cases r <;> rfl
@[simp] theorem State.setR8_status (s : State) (r : R8) (v : Byte) : (s.setR8 r v).status = s.status := by cases r <;> rfl
@[simp] theorem State.setR8_mem (s : State) (r : R8) (v : Byte) : (s.setR8 r v).mem = s.mem := by cases r <;> rfl
@[simp] theorem State.setR8_elapsed (s : State) (r : R8) (v : Byte) : (s.setR8 r v).elapsed = s.elapsed := by cases r <;> rfl
@[simp] theorem State.setR8_budget (s : State) (r : R8) (v : Byte) : (s.setR8 r v).budget = s.budget := by cases r <;> rfl
@[simp] theorem State.setR8_ended (s : State) (r : R8) (v : Byte) : (s.setR8 r v).ended = s.ended := by cases r <;> rfl
@[simp] theorem State.setR8_joypad (s : State) (r : R8) (v : Byte) : (s.setR8 r v).joypad = s.joypad := by cases r <;> rfl
@[simp] theorem State.setR8_lcdOn (s : State) (r : R8) (v : Byte) : (s.setR8 r v).lcdOn = s.lcdOn := by cases r <;> rfl
@[simp] theorem State.setR8_bgOn (s : State) (r : R8) (v : Byte) : (s.setR8 r v).bgOn = s.bgOn := by cases r <;> rfl
@[simp] theorem State.setR8_spriteOn (s : State) (r : R8) (v : Byte) : (s.setR8 r v).spriteOn = s.spriteOn := by cases r <;> rfl
@[simp] theorem State.setR8_winOn (s : State) (r : R8) (v : Byte) : (s.setR8 r v).winOn = s.winOn := by cases r <;> rfl
@[simp] theorem State.setR8_tileUnsigned (s : State) (r : R8) (v : Byte) : (s.setR8 r v).tileUnsigned = s.tileUnsigned := by cases r <;> rfl
@[simp] theorem State.setR8_bgMap (s : State) (r : R8) (v : Byte) : (s.setR8 r v).bgMap = s.bgMap := by cases r <;> rfl
@[simp] theorem State.setR8_winMap (s : State) (r : R8) (v : Byte) : (s.setR8 r v).winMap = s.winMap := by cases r <;> rfl
@[simp] theorem State.setR8_mode (s : State) (r : R8) (v : Byte) : (s.setR8 r v).mode = s.mode := by cases r <;> rfl
@[simp] theorem State.setR8_scanline (s : State) (r : R8) (v : Byte) : (s.setR8 r v).scanline = s.scanline := by cases r <;> rfl
@[simp] theorem State.setR8_nextEvent (s : State) (r : R8) (v : Byte) : (s.setR8 r v).nextEvent = s.nextEvent := by cases r <;> rfl
@[simp] theorem State.setR8_tiles (s : State) (r : R8) (v : Byte) : (s.setR8 r v).tiles = s.tiles := by cases r <;> rfl
@[simp] theorem State.setR8_sprites (s : State) (r : R8) (v : Byte) : (s.setR8 r v).sprites = s.sprites := by cases r <;> rfl
@[simp] theorem State.setR8_palBg (s : State) (r : R8) (v : Byte) : (s.setR8 r v).palBg = s.palBg := by cases r <;> rfl
@[simp] theorem State.setR8_palObj0 (s : State) (r : R8) (v : Byte) : (s.setR8 r v).palObj0 = s.palObj0 := by cases r <;> rfl
@[simp] theorem State.setR8_palObj1 (s : State) (r : R8) (v : Byte) : (s.setR8 r v).palObj1 = s.palObj1 := by cases r <;> rfl
@[simp] theorem State.setR8_lines (s : State) (r : R8) (v : Byte) : (s.setR8 r v).lines = s.lines := by cases r <;> rfl
@[simp] theorem State.setR8_raw (s : State) (r : R8) (v : Byte) (x : Nat) : (s.setR8 r v).raw x = s.raw x := by
  cases r <;> rfl
@[simp] theorem State.setR8_read (s : State) (r : R8) (v : Byte) (x : Word) : read (s.setR8 r v) x = read s x := by
  cases r <;> rfl
/-- A register reads back what was written to it, and no other register changes. -/
@[simp] theorem State.setR8_r8 (s : State) (r q : R8) (v : Byte) :
    (s.setR8 r v).r8 q = if q = r then v else s.r8 q := by
  cases r <;> cases q <;> rfl

/-! ## The numbered view of the registers under the other updates -/

@[simp] theorem State.setRaw_r8 (s : State) (k : Nat) (v : Byte) (r : R8) : (s.setRaw k v).r8 r = s.r8 r := by cases r <;> rfl
@[simp] theorem stepClock_r8 (s : State) (k : Nat) (r : R8) : (stepClock k s).r8 r = s.r8 r := by cases r <;> rfl
@[simp] theorem State.setF_r8 (s : State) (v : Byte) (r : R8) : (s.setF v).r8 r = s.r8 r := by cases r <;> rfl
@[simp] theorem wake_r8 (s : State) (r : R8) : (wake s).r8 r = s.r8 r := by cases r <;> rfl
@[simp] theorem advance_r8 (s : State) (k : Nat) (r : R8) : (advance k s).r8 r = s.r8 r := by cases r <;> rfl
@[simp] theorem dropWord_r8 (s : State) (r : R8) : (dropWord s).r8 r = s.r8 r := by cases r <;> rfl
@[simp] theorem raiseDecodeFailure_r8 (s : State) (k : Word) (v : Byte) (r : R8) : (raiseDecodeFailure k v s).r8 r = s.r8 r := by cases r <;> rfl
@[simp] theorem refuseStop_r8 (s : State) (k : Word) (r : R8) : (refuseStop k s).r8 r = s.r8 r := by cases r <;> rfl

/-! ## Pairs: the two views of a pair agree (R21) -/

theorem getLsbD_mk16 (hi lo : Byte) (i : Nat) :
    (mk16 hi lo).getLsbD i = if i < 8 then lo.getLsbD i else hi.getLsbD (i - 8) :=
  (BitVec.getLsbD_append (x := hi) (y := lo) (i := i)).trans (by cases h : decide (i < 8) <;> simp_all)
@[simp] theorem hi8_mk16 (hi lo : Byte) : hi8 (mk16 hi lo) = hi := by
  apply BitVec.eq_of_getLsbD_eq
  intro i h
  simp [hi8, getLsbD_mk16, h]
@[simp] theorem lo8_mk16 (hi lo : Byte) : lo8 (mk16 hi lo) = lo := by
  apply BitVec.eq_of_getLsbD_eq
  intro i h
  simp [lo8, getLsbD_mk16, h]
@[simp] theorem mk16_hi8_lo8 (w : Word) : mk16 (hi8 w) (lo8 w) = w := by
  apply BitVec.eq_of_getLsbD_eq
  intro i h
  rw [getLsbD_mk16]
  by_cases h8 : i < 8
  · simp [lo8, h8]
  · have : i - 8 < 8 := by omega
    have e : 8 + (i - 8) = i := by omega
    simp [hi8, h8, this, e]

@[simp] theorem State.setBC_bc (s : State) (v : Word) : (s.setBC v).bc = v := mk16_hi8_lo8 v
@[simp] theorem State.setDE_de (s : State) (v : Word) : (s.setDE v).de = v := mk16_hi8_lo8 v
@[simp] theorem State.setHL_hl (s : State) (v : Word) : (s.setHL v).hl = v := mk16_hi8_lo8 v

end Sys2Proof.Machine
end

