-- ==== Sys2Proof/Laws/Write.lean ====
section
/-! SUPPORT. What a store can and cannot do: `Write` and everything built from it leaves the CPU, the coordinator, the host
interface and the rendered lines alone (R23, R49), whatever the address. -/

namespace Sys2Proof.Machine

/-- The two states agree on everything but memory and the picture unit's flags, scanline machine and caches. -/
structure SameCore (s t : State) : Prop where
  a : t.a = s.a
  f : t.f = s.f
  b : t.b = s.b
  c : t.c = s.c
  d : t.d = s.d
  e : t.e = s.e
  h : t.h = s.h
  l : t.l = s.l
  sp : t.sp = s.sp
  pc : t.pc = s.pc
  ime : t.ime = s.ime
  halted : t.halted = s.halted
  status : t.status = s.status
  elapsed : t.elapsed = s.elapsed
  budget : t.budget = s.budget
  ended : t.ended = s.ended
  joypad : t.joypad = s.joypad
  lines : t.lines = s.lines

theorem SameCore.refl (s : State) : SameCore s s := by constructor <;> rfl

theorem SameCore.trans {s t u : State} (h : SameCore s t) (k : SameCore t u) : SameCore s u := by
  constructor
  · exact k.a.trans h.a
  · exact k.f.trans h.f
  · exact k.b.trans h.b
  · exact k.c.trans h.c
  · exact k.d.trans h.d
  · exact k.e.trans h.e
  · exact k.h.trans h.h
  · exact k.l.trans h.l
  · exact k.sp.trans h.sp
  · exact k.pc.trans h.pc
  · exact k.ime.trans h.ime
  · exact k.halted.trans h.halted
  · exact k.status.trans h.status
  · exact k.elapsed.trans h.elapsed
  · exact k.budget.trans h.budget
  · exact k.ended.trans h.ended
  · exact k.joypad.trans h.joypad
  · exact k.lines.trans h.lines

theorem SameCore.r8 {s t : State} (h : SameCore s t) (r : R8) : t.r8 r = s.r8 r := by
  cases r
  · exact h.b
  · exact h.c
  · exact h.d
  · exact h.e
  · exact h.h
  · exact h.l
  · exact h.a

theorem setRaw_core (s : State) (k : Nat) (v : Byte) : SameCore s (s.setRaw k v) := by constructor <;> rfl

theorem statRefresh_core (s : State) : SameCore s (statRefresh s) := setRaw_core _ _ _

theorem lcdcFlags_core (s : State) : SameCore s (lcdcFlags s) := by constructor <;> rfl

theorem lcdcDecode_core (s : State) : SameCore s (lcdcDecode s) := by
  unfold lcdcDecode
  refine (lcdcFlags_core s).trans ?_
  dsimp only
  split
  · constructor <;> rfl
  · split
    · constructor <;> rfl
    · exact SameCore.refl _

theorem ppuVramWrite_core (k : Nat) (s : State) : SameCore s (ppuVramWrite k s) := by
  unfold ppuVramWrite
  split
  · constructor <;> rfl
  · exact SameCore.refl _

theorem ppuOamWrite_core (k : Nat) (s : State) : SameCore s (ppuOamWrite k s) := by constructor <;> rfl

theorem ppuRegAfterStore_core (k : Nat) (s : State) : SameCore s (ppuRegAfterStore k s) := by
  unfold ppuRegAfterStore
  split
  · exact lcdcDecode_core s
  · split
    · exact statRefresh_core s
    · split
      · constructor <;> rfl
      · split
        · constructor <;> rfl
        · split
          · constructor <;> rfl
          · exact SameCore.refl _

theorem joypadSelectWrite_core (v : Byte) (s : State) : SameCore s (joypadSelectWrite v s) := setRaw_core _ _ _

theorem writeNoDma_core (addr : Word) (v : Byte) (s : State) : SameCore s (writeNoDma addr v s) := by
  unfold writeNoDma
  dsimp only
  split
  · exact SameCore.refl _
  · split
    · exact (setRaw_core _ _ _).trans (ppuVramWrite_core _ _)
    · split
      · exact (setRaw_core _ _ _).trans (ppuOamWrite_core _ _)
      · split
        · exact joypadSelectWrite_core v s
        · split
          · split
            · exact SameCore.refl _
            · exact (setRaw_core _ _ _).trans (ppuRegAfterStore_core _ _)
          · exact setRaw_core _ _ _

theorem oamDma_core (v : Byte) (s : State) : SameCore s (oamDma v s) := by
  unfold oamDma
  generalize List.range 160 = ks
  induction ks generalizing s with
  | nil => exact SameCore.refl s
  | cons k ks ih => exact (writeNoDma_core _ _ s).trans (ih _)

/-- A store leaves everything but memory and the picture unit alone. -/
theorem write_core (addr : Word) (v : Byte) (s : State) : SameCore s (write addr v s) := by
  unfold write
  dsimp only
  split
  · exact (writeNoDma_core addr v s).trans (oamDma_core _ _)
  · exact writeNoDma_core addr v s

theorem write16_core (addr v : Word) (s : State) : SameCore s (write16 addr v s) :=
  (write_core _ _ _).trans (write_core _ _ _)

@[simp] theorem write_a (s : State) (k : Word) (v : Byte) : (write k v s).a = s.a := (write_core k v s).a
@[simp] theorem write_f (s : State) (k : Word) (v : Byte) : (write k v s).f = s.f := (write_core k v s).f
@[simp] theorem write_b (s : State) (k : Word) (v : Byte) : (write k v s).b = s.b := (write_core k v s).b
@[simp] theorem write_c (s : State) (k : Word) (v : Byte) : (write k v s).c = s.c := (write_core k v s).c
@[simp] theorem write_d (s : State) (k : Word) (v : Byte) : (write k v s).d = s.d := (write_core k v s).d
@[simp] theorem write_e (s : State) (k : Word) (v : Byte) : (write k v s).e = s.e := (write_core k v s).e
@[simp] theorem write_h (s : State) (k : Word) (v : Byte) : (write k v s).h = s.h := (write_core k v s).h
@[simp] theorem write_l (s : State) (k : Word) (v : Byte) : (write k v s).l = s.l := (write_core k v s).l
@[simp] theorem write_sp (s : State) (k : Word) (v : Byte) : (write k v s).sp = s.sp := (write_core k v s).sp
@[simp] theorem write_pc (s : State) (k : Word) (v : Byte) : (write k v s).pc = s.pc := (write_core k v s).pc
@[simp] theorem write_ime (s : State) (k : Word) (v : Byte) : (write k v s).ime = s.ime := (write_core k v s).ime
@[simp] theorem write_halted (s : State) (k : Word) (v : Byte) : (write k v s).halted = s.halted := (write_core k v s).halted
@[simp] theorem write_status (s : State) (k : Word) (v : Byte) : (write k v s).status = s.status := (write_core k v s).status
@[simp] theorem write_elapsed (s : State) (k : Word) (v : Byte) : (write k v s).elapsed = s.elapsed := (write_core k v s).elapsed
@[simp] theorem write_budget (s : State) (k : Word) (v : Byte) : (write k v s).budget = s.budget := (write_core k v s).budget
@[simp] theorem write_ended (s : State) (k : Word) (v : Byte) : (write k v s).ended = s.ended := (write_core k v s).ended
@[simp] theorem write_joypad (s : State) (k : Word) (v : Byte) : (write k v s).joypad = s.joypad := (write_core k v s).joypad
@[simp] theorem write_lines (s : State) (k : Word) (v : Byte) : (write k v s).lines = s.lines := (write_core k v s).lines
@[simp] theorem write_r8 (s : State) (k : Word) (v : Byte) (r : R8) : (write k v s).r8 r = s.r8 r := (write_core k v s).r8 r

@[simp] theorem write16_a (s : State) (k v : Word) : (write16 k v s).a = s.a := (write16_core k v s).a
@[simp] theorem write16_f (s : State) (k v : Word) : (write16 k v s).f = s.f := (write16_core k v s).f
@[simp] theorem write16_b (s : State) (k v : Word) : (write16 k v s).b = s.b := (write16_core k v s).b
@[simp] theorem write16_c (s : State) (k v : Word) : (write16 k v s).c = s.c := (write16_core k v s).c
@[simp] theorem write16_d (s : State) (k v : Word) : (write16 k v s).d = s.d := (write16_core k v s).d
@[simp] theorem write16_e (s : State) (k v : Word) : (write16 k v s).e = s.e := (write16_core k v s).e
@[simp] theorem write16_h (s : State) (k v : Word) : (write16 k v s).h = s.h := (write16_core k v s).h
@[simp] theorem write16_l (s : State) (k v : Word) : (write16 k v s).l = s.l := (write16_core k v s).l
@[simp] theorem write16_sp (s : State) (k v : Word) : (write16 k v s).sp = s.sp := (write16_core k v s).sp
@[simp] theorem write16_pc (s : State) (k v : Word) : (write16 k v s).pc = s.pc := (write16_core k v s).pc
@[simp] theorem write16_ime (s : State) (k v : Word) : (write16 k v s).ime = s.ime := (write16_core k v s).ime
@[simp] theorem write16_halted (s : State) (k v : Word) : (write16 k v s).halted = s.halted := (write16_core k v s).halted
@[simp] theorem write16_status (s : State) (k v : Word) : (write16 k v s).status = s.status := (write16_core k v s).status
@[simp] theorem write16_elapsed (s : State) (k v : Word) : (write16 k v s).elapsed = s.elapsed := (write16_core k v s).elapsed
@[simp] theorem write16_budget (s : State) (k v : Word) : (write16 k v s).budget = s.budget := (write16_core k v s).budget
@[simp] theorem write16_ended (s : State) (k v : Word) : (write16 k v s).ended = s.ended := (write16_core k v s).ended
@[simp] theorem write16_joypad (s : State) (k v : Word) : (write16 k v s).joypad = s.joypad := (write16_core k v s).joypad
@[simp] theorem write16_lines (s : State) (k v : Word) : (write16 k v s).lines = s.lines := (write16_core k v s).lines
@[simp] theorem write16_r8 (s : State) (k v : Word) (r : R8) : (write16 k v s).r8 r = s.r8 r := (write16_core k v s).r8 r

end Sys2Proof.Machine
end

