-- ==== Sys2Proof/Laws/Bytes.lean ====
section
/-! SUPPORT. Which bytes a store can change, operation by operation, and the induction that carries a property of
`writeNoDma` through the OAM DMA to `write`. -/

namespace Sys2Proof.Machine

/-- What every single store keeps, every store keeps, the 160 of the OAM DMA among them. -/
theorem write_induct (P : State → Prop) (h : ∀ k v s, P s → P (writeNoDma k v s)) (addr : Word) (v : Byte) (s : State)
    (hs : P s) : P (write addr v s) := by
  have hd : ∀ (ks : List Nat) (v : Byte) (s : State), P s →
      P (ks.foldl (fun s k => writeNoDma (0xFE00#16 + BitVec.ofNat 16 k) (read s (mk16 v 0 + BitVec.ofNat 16 k)) s) s) := by
    intro ks
    induction ks with
    | nil => exact fun v s hs => hs
    | cons k ks ih => exact fun v s hs => ih v _ (h _ _ _ hs)
  unfold write
  dsimp only
  split
  · exact hd _ _ _ (h _ _ _ hs)
  · exact h _ _ _ hs

/-! ## The operations that only touch the picture unit's fields -/

@[simp] theorem ppuVramWrite_mem (k : Nat) (s : State) : (ppuVramWrite k s).mem = s.mem := by
  unfold ppuVramWrite; split <;> rfl
@[simp] theorem ppuVramWrite_raw (k x : Nat) (s : State) : (ppuVramWrite k s).raw x = s.raw x := by
  unfold State.raw; rw [ppuVramWrite_mem]
@[simp] theorem ppuOamWrite_mem (k : Nat) (s : State) : (ppuOamWrite k s).mem = s.mem := rfl
@[simp] theorem ppuOamWrite_raw (k x : Nat) (s : State) : (ppuOamWrite k s).raw x = s.raw x := rfl
@[simp] theorem lcdcFlags_mem (s : State) : (lcdcFlags s).mem = s.mem := rfl
@[simp] theorem lcdcFlags_raw (x : Nat) (s : State) : (lcdcFlags s).raw x = s.raw x := rfl

@[simp] theorem statRefresh_raw (x : Nat) (s : State) :
    (statRefresh s).raw x = if x = 0xFF41 then maskedWrite (s.raw 0xFF41) s.statBits 0x07 else s.raw x := by
  simp [statRefresh]

/-- The decoding of LCDC changes no byte but STAT. -/
theorem lcdcDecode_raw (x : Nat) (s : State) (hx : x ≠ 0xFF41) : (lcdcDecode s).raw x = s.raw x := by
  unfold lcdcDecode
  dsimp only
  split
  · unfold lcdEnable; simp [hx]; rfl
  · split
    · unfold lcdDisable; simp [hx]; rfl
    · rfl

/-- The side effect of a PPU register store changes no byte but STAT. -/
theorem ppuRegAfterStore_raw (k x : Nat) (s : State) (hx : x ≠ 0xFF41) : (ppuRegAfterStore k s).raw x = s.raw x := by
  unfold ppuRegAfterStore
  split
  · exact lcdcDecode_raw x s hx
  · split
    · simp [hx]
    · split
      · rfl
      · split
        · rfl
        · split
          · rfl
          · rfl

/-- The side effect of a PPU register store that is neither LCDC nor LYC changes no byte. -/
theorem ppuRegAfterStore_raw_of_ne (k x : Nat) (s : State) (h0 : k ≠ 0xFF40) (h5 : k ≠ 0xFF45) :
    (ppuRegAfterStore k s).raw x = s.raw x := by
  unfold ppuRegAfterStore
  rw [if_neg h0, if_neg h5]
  split
  · rfl
  · split
    · rfl
    · split <;> rfl

/-! ## One store -/

/-- A single store changes no byte but its own and, through LCDC and LYC, STAT. -/
theorem writeNoDma_raw (addr : Word) (v : Byte) (s : State) (x : Nat) (hx : x ≠ addr.toNat)
    (hs : x = 0xFF41 → addr.toNat ≠ 0xFF40 ∧ addr.toNat ≠ 0xFF45) : (writeNoDma addr v s).raw x = s.raw x := by
  have after : ∀ w, (ppuRegAfterStore addr.toNat (s.setRaw addr.toNat w)).raw x = s.raw x := by
    intro w
    by_cases h : x = 0xFF41
    · obtain ⟨h0, h5⟩ := hs h
      rw [ppuRegAfterStore_raw_of_ne _ _ _ h0 h5]; simp [hx]
    · rw [ppuRegAfterStore_raw _ _ _ h]; simp [hx]
  unfold writeNoDma
  dsimp only
  split
  · rfl
  · split
    · simp [hx]
    · split
      · simp [hx]
      · split
        · next h => unfold joypadSelectWrite resolveKeys; simp [h ▸ hx]
        · split
          · split
            · rfl
            · exact after _
          · simp [hx]

/-- A store below 0x8000 does nothing (R101, R111). -/
theorem writeNoDma_rom (addr : Word) (v : Byte) (s : State) (h : addr.toNat < 0x8000) : writeNoDma addr v s = s := by
  unfold writeNoDma; simp [h]

/-- A store to OAM is the byte and its descriptor field (R111, R364). -/
theorem writeNoDma_oam (addr : Word) (v : Byte) (s : State) (h : 0xFE00 ≤ addr.toNat) (h' : addr.toNat ≤ 0xFE9F) :
    writeNoDma addr v s = ppuOamWrite addr.toNat (s.setRaw addr.toNat v) := by
  unfold writeNoDma
  have h1 : ¬ addr.toNat < 0x8000 := by omega
  have h2 : ¬ addr.toNat ≤ 0x9FFF := by omega
  simp [h1, h2, h, h']

/-- A store anywhere but at 0xFF46 is a single store. -/
theorem write_eq_writeNoDma (addr : Word) (v : Byte) (s : State) (h : addr ≠ 0xFF46) :
    write addr v s = writeNoDma addr v s := by
  unfold write; exact if_neg h

/-- The OAM DMA's destination addresses, as numbers. -/
theorem oamAddr_toNat (k : Nat) (h : k < 160) : (0xFE00#16 + BitVec.ofNat 16 k).toNat = 0xFE00 + k := by
  simp [BitVec.toNat_add, BitVec.toNat_ofNat]; omega

/-- The stores of the OAM DMA are `Write`s: 0xFF46 is not among their addresses (log 16). -/
theorem oamDma_stores_are_writes (k : Nat) (h : k < 160) (v : Byte) (s : State) :
    writeNoDma (0xFE00#16 + BitVec.ofNat 16 k) v s = write (0xFE00#16 + BitVec.ofNat 16 k) v s := by
  refine (write_eq_writeNoDma _ _ _ (fun e => ?_)).symm
  have := congrArg BitVec.toNat e
  rw [oamAddr_toNat k h] at this
  simp at this
  omega

/-- The OAM DMA changes no byte outside OAM. -/
theorem oamDma_raw (v : Byte) (s : State) (x : Nat) (hx : x < 0xFE00 ∨ 0xFE9F < x) : (oamDma v s).raw x = s.raw x := by
  unfold oamDma
  have : ∀ (ks : List Nat) (s : State), (∀ k ∈ ks, k < 160) →
      (ks.foldl (fun s k => writeNoDma (0xFE00#16 + BitVec.ofNat 16 k) (read s (mk16 v 0 + BitVec.ofNat 16 k)) s) s).raw x
        = s.raw x := by
    intro ks
    induction ks with
    | nil => exact fun _ _ => rfl
    | cons k ks ih =>
      intro s hk
      have hlt : k < 160 := hk k (by simp)
      have ha := oamAddr_toNat k hlt
      rw [List.foldl_cons, ih _ (fun j hj => hk j (by simp [hj])),
        writeNoDma_raw _ _ _ _ (by rw [ha]; omega) (fun _ => by rw [ha]; omega)]
  exact this _ _ (by simp)

end Sys2Proof.Machine
end

