-- ==== Sys2Proof/Laws/Shapes.lean ====
section
/-! SUPPORT. The 46 shapes behind the 511 meanings. `exec_eq` turns a statement about every instruction into one case per
shape, so that no proof has to go through the arms of `exec`. -/

namespace Sys2Proof.Machine

/-- A shared operation with its operands. -/
inductive Shape where
  | copyReg (dst src : R8)
  | loadImm (dst : R8) (n : Byte)
  | loadHL (dst : R8)
  | storeHL (r : R8)
  | storeImm (n : Byte)
  | loadA (p : Ptr)
  | storeA (p : Ptr)
  | loadPair (rr : R16) (nn : Word)
  | storeSp (nn : Word)
  | copyHlToSp
  | loadSpOffset (e : Byte)
  | pushPair (rr : R16Stk)
  | popPair (rr : R16Stk)
  | accumulate (op : AluOp) (x : AluSrc)
  | incLoc (x : Loc8)
  | decLoc (x : Loc8)
  | adjustDecimal
  | complementA
  | setCarry
  | complementCarry
  | addToHl (rr : R16)
  | incPair (rr : R16)
  | decPair (rr : R16)
  | addOffsetToSp (e : Byte)
  | jump (nn : Word)
  | jumpIf (cc : Cond) (nn : Word)
  | jumpHl
  | jumpRel (e : Byte)
  | jumpRelIf (cc : Cond) (e : Byte)
  | call (nn : Word)
  | callIf (cc : Cond) (nn : Word)
  | ret
  | retIf (cc : Cond)
  | retInterrupt
  | restart (t : Byte)
  | doNothing
  | disableInterrupts
  | enableInterrupts
  | enterLowPower
  | stopRefused (n : Byte)
  | undefinedOpcode (op : Byte)
  | rotateAcc (op : RotOp)
  | rotateLoc (op : RotOp) (x : Loc8)
  | testBit (b : Fin 8) (x : Loc8)
  | clearBit (b : Fin 8) (x : Loc8)
  | assignBit (b : Fin 8) (x : Loc8)
  deriving DecidableEq, Repr

/-- What a shape does. -/
def Shape.run (k : Shape) (s : State) : Result :=
  match k with
  | .copyReg v0 v1 => Machine.copyReg v0 v1 s
  | .loadImm v0 v1 => Machine.loadImm v0 v1 s
  | .loadHL v0 => Machine.loadHL v0 s
  | .storeHL v0 => Machine.storeHL v0 s
  | .storeImm v0 => Machine.storeImm v0 s
  | .loadA v0 => Machine.loadA v0 s
  | .storeA v0 => Machine.storeA v0 s
  | .loadPair v0 v1 => Machine.loadPair v0 v1 s
  | .storeSp v0 => Machine.storeSp v0 s
  | .copyHlToSp => Machine.copyHlToSp s
  | .loadSpOffset v0 => Machine.loadSpOffset v0 s
  | .pushPair v0 => Machine.pushPair v0 s
  | .popPair v0 => Machine.popPair v0 s
  | .accumulate v0 v1 => Machine.accumulate v0 v1 s
  | .incLoc v0 => Machine.incLoc v0 s
  | .decLoc v0 => Machine.decLoc v0 s
  | .adjustDecimal => Machine.adjustDecimal s
  | .complementA => Machine.complementA s
  | .setCarry => Machine.setCarry s
  | .complementCarry => Machine.complementCarry s
  | .addToHl v0 => Machine.addToHl v0 s
  | .incPair v0 => Machine.incPair v0 s
  | .decPair v0 => Machine.decPair v0 s
  | .addOffsetToSp v0 => Machine.addOffsetToSp v0 s
  | .jump v0 => Machine.jump v0 s
  | .jumpIf v0 v1 => Machine.jumpIf v0 v1 s
  | .jumpHl => Machine.jumpHl s
  | .jumpRel v0 => Machine.jumpRel v0 s
  | .jumpRelIf v0 v1 => Machine.jumpRelIf v0 v1 s
  | .call v0 => Machine.call v0 s
  | .callIf v0 v1 => Machine.callIf v0 v1 s
  | .ret => Machine.ret s
  | .retIf v0 => Machine.retIf v0 s
  | .retInterrupt => Machine.retInterrupt s
  | .restart v0 => Machine.restart v0 s
  | .doNothing => Machine.doNothing s
  | .disableInterrupts => Machine.disableInterrupts s
  | .enableInterrupts => Machine.enableInterrupts s
  | .enterLowPower => Machine.enterLowPower s
  | .stopRefused v0 => Machine.stopRefused v0 s
  | .undefinedOpcode v0 => Machine.undefinedOpcode v0 s
  | .rotateAcc v0 => Machine.rotateAcc v0 s
  | .rotateLoc v0 v1 => Machine.rotateLoc v0 v1 s
  | .testBit v0 v1 => Machine.testBit v0 v1 s
  | .clearBit v0 v1 => Machine.clearBit v0 v1 s
  | .assignBit v0 v1 => Machine.assignBit v0 v1 s

/-- The shape of an instruction. -/
def shapeOf (i : Instr) : Shape :=
  match i with
  | .ld_mBC_A => .storeA .bc
  | .ld_B_n n => .loadImm .b n
  | .ld_A_mBC => .loadA .bc
  | .ld_C_n n => .loadImm .c n
  | .ld_mDE_A => .storeA .de
  | .ld_D_n n => .loadImm .d n
  | .ld_A_mDE => .loadA .de
  | .ld_E_n n => .loadImm .e n
  | .ld_mHLI_A => .storeA .hlInc
  | .ld_H_n n => .loadImm .h n
  | .ld_A_mHLI => .loadA .hlInc
  | .ld_L_n n => .loadImm .l n
  | .ld_mHLD_A => .storeA .hlDec
  | .ld_mHL_n n => .storeImm n
  | .ld_A_mHLD => .loadA .hlDec
  | .ld_A_n n => .loadImm .a n
  | .ld_B_B => .copyReg .b .b
  | .ld_B_C => .copyReg .b .c
  | .ld_B_D => .copyReg .b .d
  | .ld_B_E => .copyReg .b .e
  | .ld_B_H => .copyReg .b .h
  | .ld_B_L => .copyReg .b .l
  | .ld_B_mHL => .loadHL .b
  | .ld_B_A => .copyReg .b .a
  | .ld_C_B => .copyReg .c .b
  | .ld_C_C => .copyReg .c .c
  | .ld_C_D => .copyReg .c .d
  | .ld_C_E => .copyReg .c .e
  | .ld_C_H => .copyReg .c .h
  | .ld_C_L => .copyReg .c .l
  | .ld_C_mHL => .loadHL .c
  | .ld_C_A => .copyReg .c .a
  | .ld_D_B => .copyReg .d .b
  | .ld_D_C => .copyReg .d .c
  | .ld_D_D => .copyReg .d .d
  | .ld_D_E => .copyReg .d .e
  | .ld_D_H => .copyReg .d .h
  | .ld_D_L => .copyReg .d .l
  | .ld_D_mHL => .loadHL .d
  | .ld_D_A => .copyReg .d .a
  | .ld_E_B => .copyReg .e .b
  | .ld_E_C => .copyReg .e .c
  | .ld_E_D => .copyReg .e .d
  | .ld_E_E => .copyReg .e .e
  | .ld_E_H => .copyReg .e .h
  | .ld_E_L => .copyReg .e .l
  | .ld_E_mHL => .loadHL .e
  | .ld_E_A => .copyReg .e .a
  | .ld_H_B => .copyReg .h .b
  | .ld_H_C => .copyReg .h .c
  | .ld_H_D => .copyReg .h .d
  | .ld_H_E => .copyReg .h .e
  | .ld_H_H => .copyReg .h .h
  | .ld_H_L => .copyReg .h .l
  | .ld_H_mHL => .loadHL .h
  | .ld_H_A => .copyReg .h .a
  | .ld_L_B => .copyReg .l .b
  | .ld_L_C => .copyReg .l .c
  | .ld_L_D => .copyReg .l .d
  | .ld_L_E => .copyReg .l .e
  | .ld_L_H => .copyReg .l .h
  | .ld_L_L => .copyReg .l .l
  | .ld_L_mHL => .loadHL .l
  | .ld_L_A => .copyReg .l .a
  | .ld_mHL_B => .storeHL .b
  | .ld_mHL_C => .storeHL .c
  | .ld_mHL_D => .storeHL .d
  | .ld_mHL_E => .storeHL .e
  | .ld_mHL_H => .storeHL .h
  | .ld_mHL_L => .storeHL .l
  | .ld_mHL_A => .storeHL .a
  | .ld_A_B => .copyReg .a .b
  | .ld_A_C => .copyReg .a .c
  | .ld_A_D => .copyReg .a .d
  | .ld_A_E => .copyReg .a .e
  | .ld_A_H => .copyReg .a .h
  | .ld_A_L => .copyReg .a .l
  | .ld_A_mHL => .loadHL .a
  | .ld_A_A => .copyReg .a .a
  | .ldh_mn_A n => .storeA (.high n)
  | .ld_mC_A => .storeA .highC
  | .ld_mnn_A nn => .storeA (.abs nn)
  | .ldh_A_mn n => .loadA (.high n)
  | .ld_A_mC => .loadA .highC
  | .ld_A_mnn nn => .loadA (.abs nn)
  | .ld_BC_nn nn => .loadPair .bc nn
  | .ld_mnn_SP nn => .storeSp nn
  | .ld_DE_nn nn => .loadPair .de nn
  | .ld_HL_nn nn => .loadPair .hl nn
  | .ld_SP_nn nn => .loadPair .sp nn
  | .pop_BC => .popPair .bc
  | .push_BC => .pushPair .bc
  | .pop_DE => .popPair .de
  | .push_DE => .pushPair .de
  | .pop_HL => .popPair .hl
  | .push_HL => .pushPair .hl
  | .pop_AF => .popPair .af
  | .push_AF => .pushPair .af
  | .ld_HL_SPe e => .loadSpOffset e
  | .ld_SP_HL => .copyHlToSp
  | .inc_B => .incLoc (.reg .b)
  | .dec_B => .decLoc (.reg .b)
  | .inc_C => .incLoc (.reg .c)
  | .dec_C => .decLoc (.reg .c)
  | .inc_D => .incLoc (.reg .d)
  | .dec_D => .decLoc (.reg .d)
  | .inc_E => .incLoc (.reg .e)
  | .dec_E => .decLoc (.reg .e)
  | .inc_H => .incLoc (.reg .h)
  | .dec_H => .decLoc (.reg .h)
  | .daa => .adjustDecimal
  | .inc_L => .incLoc (.reg .l)
  | .dec_L => .decLoc (.reg .l)
  | .cpl => .complementA
  | .inc_mHL => .incLoc .memHL
  | .dec_mHL => .decLoc .memHL
  | .scf => .setCarry
  | .inc_A => .incLoc (.reg .a)
  | .dec_A => .decLoc (.reg .a)
  | .ccf => .complementCarry
  | .add_A_B => .accumulate .add (.loc (.reg .b))
  | .add_A_C => .accumulate .add (.loc (.reg .c))
  | .add_A_D => .accumulate .add (.loc (.reg .d))
  | .add_A_E => .accumulate .add (.loc (.reg .e))
  | .add_A_H => .accumulate .add (.loc (.reg .h))
  | .add_A_L => .accumulate .add (.loc (.reg .l))
  | .add_A_mHL => .accumulate .add (.loc .memHL)
  | .add_A_A => .accumulate .add (.loc (.reg .a))
  | .adc_A_B => .accumulate .adc (.loc (.reg .b))
  | .adc_A_C => .accumulate .adc (.loc (.reg .c))
  | .adc_A_D => .accumulate .adc (.loc (.reg .d))
  | .adc_A_E => .accumulate .adc (.loc (.reg .e))
  | .adc_A_H => .accumulate .adc (.loc (.reg .h))
  | .adc_A_L => .accumulate .adc (.loc (.reg .l))
  | .adc_A_mHL => .accumulate .adc (.loc .memHL)
  | .adc_A_A => .accumulate .adc (.loc (.reg .a))
  | .sub_A_B => .accumulate .sub (.loc (.reg .b))
  | .sub_A_C => .accumulate .sub (.loc (.reg .c))
  | .sub_A_D => .accumulate .sub (.loc (.reg .d))
  | .sub_A_E => .accumulate .sub (.loc (.reg .e))
  | .sub_A_H => .accumulate .sub (.loc (.reg .h))
  | .sub_A_L => .accumulate .sub (.loc (.reg .l))
  | .sub_A_mHL => .accumulate .sub (.loc .memHL)
  | .sub_A_A => .accumulate .sub (.loc (.reg .a))
  | .sbc_A_B => .accumulate .sbc (.loc (.reg .b))
  | .sbc_A_C => .accumulate .sbc (.loc (.reg .c))
  | .sbc_A_D => .accumulate .sbc (.loc (.reg .d))
  | .sbc_A_E => .accumulate .sbc (.loc (.reg .e))
  | .sbc_A_H => .accumulate .sbc (.loc (.reg .h))
  | .sbc_A_L => .accumulate .sbc (.loc (.reg .l))
  | .sbc_A_mHL => .accumulate .sbc (.loc .memHL)
  | .sbc_A_A => .accumulate .sbc (.loc (.reg .a))
  | .and_A_B => .accumulate .and (.loc (.reg .b))
  | .and_A_C => .accumulate .and (.loc (.reg .c))
  | .and_A_D => .accumulate .and (.loc (.reg .d))
  | .and_A_E => .accumulate .and (.loc (.reg .e))
  | .and_A_H => .accumulate .and (.loc (.reg .h))
  | .and_A_L => .accumulate .and (.loc (.reg .l))
  | .and_A_mHL => .accumulate .and (.loc .memHL)
  | .and_A_A => .accumulate .and (.loc (.reg .a))
  | .xor_A_B => .accumulate .xor (.loc (.reg .b))
  | .xor_A_C => .accumulate .xor (.loc (.reg .c))
  | .xor_A_D => .accumulate .xor (.loc (.reg .d))
  | .xor_A_E => .accumulate .xor (.loc (.reg .e))
  | .xor_A_H => .accumulate .xor (.loc (.reg .h))
  | .xor_A_L => .accumulate .xor (.loc (.reg .l))
  | .xor_A_mHL => .accumulate .xor (.loc .memHL)
  | .xor_A_A => .accumulate .xor (.loc (.reg .a))
  | .or_A_B => .accumulate .or (.loc (.reg .b))
  | .or_A_C => .accumulate .or (.loc (.reg .c))
  | .or_A_D => .accumulate .or (.loc (.reg .d))
  | .or_A_E => .accumulate .or (.loc (.reg .e))
  | .or_A_H => .accumulate .or (.loc (.reg .h))
  | .or_A_L => .accumulate .or (.loc (.reg .l))
  | .or_A_mHL => .accumulate .or (.loc .memHL)
  | .or_A_A => .accumulate .or (.loc (.reg .a))
  | .cp_A_B => .accumulate .cp (.loc (.reg .b))
  | .cp_A_C => .accumulate .cp (.loc (.reg .c))
  | .cp_A_D => .accumulate .cp (.loc (.reg .d))
  | .cp_A_E => .accumulate .cp (.loc (.reg .e))
  | .cp_A_H => .accumulate .cp (.loc (.reg .h))
  | .cp_A_L => .accumulate .cp (.loc (.reg .l))
  | .cp_A_mHL => .accumulate .cp (.loc .memHL)
  | .cp_A_A => .accumulate .cp (.loc (.reg .a))
  | .add_A_n n => .accumulate .add (.imm n)
  | .adc_A_n n => .accumulate .adc (.imm n)
  | .sub_A_n n => .accumulate .sub (.imm n)
  | .sbc_A_n n => .accumulate .sbc (.imm n)
  | .and_A_n n => .accumulate .and (.imm n)
  | .xor_A_n n => .accumulate .xor (.imm n)
  | .or_A_n n => .accumulate .or (.imm n)
  | .cp_A_n n => .accumulate .cp (.imm n)
  | .inc_BC => .incPair .bc
  | .add_HL_BC => .addToHl .bc
  | .dec_BC => .decPair .bc
  | .inc_DE => .incPair .de
  | .add_HL_DE => .addToHl .de
  | .dec_DE => .decPair .de
  | .inc_HL => .incPair .hl
  | .add_HL_HL => .addToHl .hl
  | .dec_HL => .decPair .hl
  | .inc_SP => .incPair .sp
  | .add_HL_SP => .addToHl .sp
  | .dec_SP => .decPair .sp
  | .add_SP_e e => .addOffsetToSp e
  | .jr_e e => .jumpRel e
  | .jr_NZ_e e => .jumpRelIf .nz e
  | .jr_Z_e e => .jumpRelIf .z e
  | .jr_NC_e e => .jumpRelIf .nc e
  | .jr_C_e e => .jumpRelIf .c e
  | .ret_NZ => .retIf .nz
  | .jp_NZ_nn nn => .jumpIf .nz nn
  | .jp_nn nn => .jump nn
  | .call_NZ_nn nn => .callIf .nz nn
  | .rst_00 => .restart 0x00
  | .ret_Z => .retIf .z
  | .ret => .ret
  | .jp_Z_nn nn => .jumpIf .z nn
  | .call_Z_nn nn => .callIf .z nn
  | .call_nn nn => .call nn
  | .rst_08 => .restart 0x08
  | .ret_NC => .retIf .nc
  | .jp_NC_nn nn => .jumpIf .nc nn
  | .call_NC_nn nn => .callIf .nc nn
  | .rst_10 => .restart 0x10
  | .ret_C => .retIf .c
  | .reti => .retInterrupt
  | .jp_C_nn nn => .jumpIf .c nn
  | .call_C_nn nn => .callIf .c nn
  | .rst_18 => .restart 0x18
  | .rst_20 => .restart 0x20
  | .jp_HL => .jumpHl
  | .rst_28 => .restart 0x28
  | .rst_30 => .restart 0x30
  | .rst_38 => .restart 0x38
  | .stop n => .stopRefused n
  | .nop => .doNothing
  | .halt => .enterLowPower
  | .undefined_D3 => .undefinedOpcode 0xD3
  | .undefined_DB => .undefinedOpcode 0xDB
  | .undefined_DD => .undefinedOpcode 0xDD
  | .undefined_E3 => .undefinedOpcode 0xE3
  | .undefined_E4 => .undefinedOpcode 0xE4
  | .undefined_EB => .undefinedOpcode 0xEB
  | .undefined_EC => .undefinedOpcode 0xEC
  | .undefined_ED => .undefinedOpcode 0xED
  | .di => .disableInterrupts
  | .undefined_F4 => .undefinedOpcode 0xF4
  | .ei => .enableInterrupts
  | .undefined_FC => .undefinedOpcode 0xFC
  | .undefined_FD => .undefinedOpcode 0xFD
  | .rlca => .rotateAcc .rlc
  | .rrca => .rotateAcc .rrc
  | .rla => .rotateAcc .rl
  | .rra => .rotateAcc .rr
  | .rlc_B => .rotateLoc .rlc (.reg .b)
  | .rlc_C => .rotateLoc .rlc (.reg .c)
  | .rlc_D => .rotateLoc .rlc (.reg .d)
  | .rlc_E => .rotateLoc .rlc (.reg .e)
  | .rlc_H => .rotateLoc .rlc (.reg .h)
  | .rlc_L => .rotateLoc .rlc (.reg .l)
  | .rlc_mHL => .rotateLoc .rlc .memHL
  | .rlc_A => .rotateLoc .rlc (.reg .a)
  | .rrc_B => .rotateLoc .rrc (.reg .b)
  | .rrc_C => .rotateLoc .rrc (.reg .c)
  | .rrc_D => .rotateLoc .rrc (.reg .d)
  | .rrc_E => .rotateLoc .rrc (.reg .e)
  | .rrc_H => .rotateLoc .rrc (.reg .h)
  | .rrc_L => .rotateLoc .rrc (.reg .l)
  | .rrc_mHL => .rotateLoc .rrc .memHL
  | .rrc_A => .rotateLoc .rrc (.reg .a)
  | .rl_B => .rotateLoc .rl (.reg .b)
  | .rl_C => .rotateLoc .rl (.reg .c)
  | .rl_D => .rotateLoc .rl (.reg .d)
  | .rl_E => .rotateLoc .rl (.reg .e)
  | .rl_H => .rotateLoc .rl (.reg .h)
  | .rl_L => .rotateLoc .rl (.reg .l)
  | .rl_mHL => .rotateLoc .rl .memHL
  | .rl_A => .rotateLoc .rl (.reg .a)
  | .rr_B => .rotateLoc .rr (.reg .b)
  | .rr_C => .rotateLoc .rr (.reg .c)
  | .rr_D => .rotateLoc .rr (.reg .d)
  | .rr_E => .rotateLoc .rr (.reg .e)
  | .rr_H => .rotateLoc .rr (.reg .h)
  | .rr_L => .rotateLoc .rr (.reg .l)
  | .rr_mHL => .rotateLoc .rr .memHL
  | .rr_A => .rotateLoc .rr (.reg .a)
  | .sla_B => .rotateLoc .sla (.reg .b)
  | .sla_C => .rotateLoc .sla (.reg .c)
  | .sla_D => .rotateLoc .sla (.reg .d)
  | .sla_E => .rotateLoc .sla (.reg .e)
  | .sla_H => .rotateLoc .sla (.reg .h)
  | .sla_L => .rotateLoc .sla (.reg .l)
  | .sla_mHL => .rotateLoc .sla .memHL
  | .sla_A => .rotateLoc .sla (.reg .a)
  | .sra_B => .rotateLoc .sra (.reg .b)
  | .sra_C => .rotateLoc .sra (.reg .c)
  | .sra_D => .rotateLoc .sra (.reg .d)
  | .sra_E => .rotateLoc .sra (.reg .e)
  | .sra_H => .rotateLoc .sra (.reg .h)
  | .sra_L => .rotateLoc .sra (.reg .l)
  | .sra_mHL => .rotateLoc .sra .memHL
  | .sra_A => .rotateLoc .sra (.reg .a)
  | .swap_B => .rotateLoc .swap (.reg .b)
  | .swap_C => .rotateLoc .swap (.reg .c)
  | .swap_D => .rotateLoc .swap (.reg .d)
  | .swap_E => .rotateLoc .swap (.reg .e)
  | .swap_H => .rotateLoc .swap (.reg .h)
  | .swap_L => .rotateLoc .swap (.reg .l)
  | .swap_mHL => .rotateLoc .swap .memHL
  | .swap_A => .rotateLoc .swap (.reg .a)
  | .srl_B => .rotateLoc .srl (.reg .b)
  | .srl_C => .rotateLoc .srl (.reg .c)
  | .srl_D => .rotateLoc .srl (.reg .d)
  | .srl_E => .rotateLoc .srl (.reg .e)
  | .srl_H => .rotateLoc .srl (.reg .h)
  | .srl_L => .rotateLoc .srl (.reg .l)
  | .srl_mHL => .rotateLoc .srl .memHL
  | .srl_A => .rotateLoc .srl (.reg .a)
  | .bit_0_B => .testBit 0 (.reg .b)
  | .bit_0_C => .testBit 0 (.reg .c)
  | .bit_0_D => .testBit 0 (.reg .d)
  | .bit_0_E => .testBit 0 (.reg .e)
  | .bit_0_H => .testBit 0 (.reg .h)
  | .bit_0_L => .testBit 0 (.reg .l)
  | .bit_0_mHL => .testBit 0 .memHL
  | .bit_0_A => .testBit 0 (.reg .a)
  | .bit_1_B => .testBit 1 (.reg .b)
  | .bit_1_C => .testBit 1 (.reg .c)
  | .bit_1_D => .testBit 1 (.reg .d)
  | .bit_1_E => .testBit 1 (.reg .e)
  | .bit_1_H => .testBit 1 (.reg .h)
  | .bit_1_L => .testBit 1 (.reg .l)
  | .bit_1_mHL => .testBit 1 .memHL
  | .bit_1_A => .testBit 1 (.reg .a)
  | .bit_2_B => .testBit 2 (.reg .b)
  | .bit_2_C => .testBit 2 (.reg .c)
  | .bit_2_D => .testBit 2 (.reg .d)
  | .bit_2_E => .testBit 2 (.reg .e)
  | .bit_2_H => .testBit 2 (.reg .h)
  | .bit_2_L => .testBit 2 (.reg .l)
  | .bit_2_mHL => .testBit 2 .memHL
  | .bit_2_A => .testBit 2 (.reg .a)
  | .bit_3_B => .testBit 3 (.reg .b)
  | .bit_3_C => .testBit 3 (.reg .c)
  | .bit_3_D => .testBit 3 (.reg .d)
  | .bit_3_E => .testBit 3 (.reg .e)
  | .bit_3_H => .testBit 3 (.reg .h)
  | .bit_3_L => .testBit 3 (.reg .l)
  | .bit_3_mHL => .testBit 3 .memHL
  | .bit_3_A => .testBit 3 (.reg .a)
  | .bit_4_B => .testBit 4 (.reg .b)
  | .bit_4_C => .testBit 4 (.reg .c)
  | .bit_4_D => .testBit 4 (.reg .d)
  | .bit_4_E => .testBit 4 (.reg .e)
  | .bit_4_H => .testBit 4 (.reg .h)
  | .bit_4_L => .testBit 4 (.reg .l)
  | .bit_4_mHL => .testBit 4 .memHL
  | .bit_4_A => .testBit 4 (.reg .a)
  | .bit_5_B => .testBit 5 (.reg .b)
  | .bit_5_C => .testBit 5 (.reg .c)
  | .bit_5_D => .testBit 5 (.reg .d)
  | .bit_5_E => .testBit 5 (.reg .e)
  | .bit_5_H => .testBit 5 (.reg .h)
  | .bit_5_L => .testBit 5 (.reg .l)
  | .bit_5_mHL => .testBit 5 .memHL
  | .bit_5_A => .testBit 5 (.reg .a)
  | .bit_6_B => .testBit 6 (.reg .b)
  | .bit_6_C => .testBit 6 (.reg .c)
  | .bit_6_D => .testBit 6 (.reg .d)
  | .bit_6_E => .testBit 6 (.reg .e)
  | .bit_6_H => .testBit 6 (.reg .h)
  | .bit_6_L => .testBit 6 (.reg .l)
  | .bit_6_mHL => .testBit 6 .memHL
  | .bit_6_A => .testBit 6 (.reg .a)
  | .bit_7_B => .testBit 7 (.reg .b)
  | .bit_7_C => .testBit 7 (.reg .c)
  | .bit_7_D => .testBit 7 (.reg .d)
  | .bit_7_E => .testBit 7 (.reg .e)
  | .bit_7_H => .testBit 7 (.reg .h)
  | .bit_7_L => .testBit 7 (.reg .l)
  | .bit_7_mHL => .testBit 7 .memHL
  | .bit_7_A => .testBit 7 (.reg .a)
  | .res_0_B => .clearBit 0 (.reg .b)
  | .res_0_C => .clearBit 0 (.reg .c)
  | .res_0_D => .clearBit 0 (.reg .d)
  | .res_0_E => .clearBit 0 (.reg .e)
  | .res_0_H => .clearBit 0 (.reg .h)
  | .res_0_L => .clearBit 0 (.reg .l)
  | .res_0_mHL => .clearBit 0 .memHL
  | .res_0_A => .clearBit 0 (.reg .a)
  | .res_1_B => .clearBit 1 (.reg .b)
  | .res_1_C => .clearBit 1 (.reg .c)
  | .res_1_D => .clearBit 1 (.reg .d)
  | .res_1_E => .clearBit 1 (.reg .e)
  | .res_1_H => .clearBit 1 (.reg .h)
  | .res_1_L => .clearBit 1 (.reg .l)
  | .res_1_mHL => .clearBit 1 .memHL
  | .res_1_A => .clearBit 1 (.reg .a)
  | .res_2_B => .clearBit 2 (.reg .b)
  | .res_2_C => .clearBit 2 (.reg .c)
  | .res_2_D => .clearBit 2 (.reg .d)
  | .res_2_E => .clearBit 2 (.reg .e)
  | .res_2_H => .clearBit 2 (.reg .h)
  | .res_2_L => .clearBit 2 (.reg .l)
  | .res_2_mHL => .clearBit 2 .memHL
  | .res_2_A => .clearBit 2 (.reg .a)
  | .res_3_B => .clearBit 3 (.reg .b)
  | .res_3_C => .clearBit 3 (.reg .c)
  | .res_3_D => .clearBit 3 (.reg .d)
  | .res_3_E => .clearBit 3 (.reg .e)
  | .res_3_H => .clearBit 3 (.reg .h)
  | .res_3_L => .clearBit 3 (.reg .l)
  | .res_3_mHL => .clearBit 3 .memHL
  | .res_3_A => .clearBit 3 (.reg .a)
  | .res_4_B => .clearBit 4 (.reg .b)
  | .res_4_C => .clearBit 4 (.reg .c)
  | .res_4_D => .clearBit 4 (.reg .d)
  | .res_4_E => .clearBit 4 (.reg .e)
  | .res_4_H => .clearBit 4 (.reg .h)
  | .res_4_L => .clearBit 4 (.reg .l)
  | .res_4_mHL => .clearBit 4 .memHL
  | .res_4_A => .clearBit 4 (.reg .a)
  | .res_5_B => .clearBit 5 (.reg .b)
  | .res_5_C => .clearBit 5 (.reg .c)
  | .res_5_D => .clearBit 5 (.reg .d)
  | .res_5_E => .clearBit 5 (.reg .e)
  | .res_5_H => .clearBit 5 (.reg .h)
  | .res_5_L => .clearBit 5 (.reg .l)
  | .res_5_mHL => .clearBit 5 .memHL
  | .res_5_A => .clearBit 5 (.reg .a)
  | .res_6_B => .clearBit 6 (.reg .b)
  | .res_6_C => .clearBit 6 (.reg .c)
  | .res_6_D => .clearBit 6 (.reg .d)
  | .res_6_E => .clearBit 6 (.reg .e)
  | .res_6_H => .clearBit 6 (.reg .h)
  | .res_6_L => .clearBit 6 (.reg .l)
  | .res_6_mHL => .clearBit 6 .memHL
  | .res_6_A => .clearBit 6 (.reg .a)
  | .res_7_B => .clearBit 7 (.reg .b)
  | .res_7_C => .clearBit 7 (.reg .c)
  | .res_7_D => .clearBit 7 (.reg .d)
  | .res_7_E => .clearBit 7 (.reg .e)
  | .res_7_H => .clearBit 7 (.reg .h)
  | .res_7_L => .clearBit 7 (.reg .l)
  | .res_7_mHL => .clearBit 7 .memHL
  | .res_7_A => .clearBit 7 (.reg .a)
  | .set_0_B => .assignBit 0 (.reg .b)
  | .set_0_C => .assignBit 0 (.reg .c)
  | .set_0_D => .assignBit 0 (.reg .d)
  | .set_0_E => .assignBit 0 (.reg .e)
  | .set_0_H => .assignBit 0 (.reg .h)
  | .set_0_L => .assignBit 0 (.reg .l)
  | .set_0_mHL => .assignBit 0 .memHL
  | .set_0_A => .assignBit 0 (.reg .a)
  | .set_1_B => .assignBit 1 (.reg .b)
  | .set_1_C => .assignBit 1 (.reg .c)
  | .set_1_D => .assignBit 1 (.reg .d)
  | .set_1_E => .assignBit 1 (.reg .e)
  | .set_1_H => .assignBit 1 (.reg .h)
  | .set_1_L => .assignBit 1 (.reg .l)
  | .set_1_mHL => .assignBit 1 .memHL
  | .set_1_A => .assignBit 1 (.reg .a)
  | .set_2_B => .assignBit 2 (.reg .b)
  | .set_2_C => .assignBit 2 (.reg .c)
  | .set_2_D => .assignBit 2 (.reg .d)
  | .set_2_E => .assignBit 2 (.reg .e)
  | .set_2_H => .assignBit 2 (.reg .h)
  | .set_2_L => .assignBit 2 (.reg .l)
  | .set_2_mHL => .assignBit 2 .memHL
  | .set_2_A => .assignBit 2 (.reg .a)
  | .set_3_B => .assignBit 3 (.reg .b)
  | .set_3_C => .assignBit 3 (.reg .c)
  | .set_3_D => .assignBit 3 (.reg .d)
  | .set_3_E => .assignBit 3 (.reg .e)
  | .set_3_H => .assignBit 3 (.reg .h)
  | .set_3_L => .assignBit 3 (.reg .l)
  | .set_3_mHL => .assignBit 3 .memHL
  | .set_3_A => .assignBit 3 (.reg .a)
  | .set_4_B => .assignBit 4 (.reg .b)
  | .set_4_C => .assignBit 4 (.reg .c)
  | .set_4_D => .assignBit 4 (.reg .d)
  | .set_4_E => .assignBit 4 (.reg .e)
  | .set_4_H => .assignBit 4 (.reg .h)
  | .set_4_L => .assignBit 4 (.reg .l)
  | .set_4_mHL => .assignBit 4 .memHL
  | .set_4_A => .assignBit 4 (.reg .a)
  | .set_5_B => .assignBit 5 (.reg .b)
  | .set_5_C => .assignBit 5 (.reg .c)
  | .set_5_D => .assignBit 5 (.reg .d)
  | .set_5_E => .assignBit 5 (.reg .e)
  | .set_5_H => .assignBit 5 (.reg .h)
  | .set_5_L => .assignBit 5 (.reg .l)
  | .set_5_mHL => .assignBit 5 .memHL
  | .set_5_A => .assignBit 5 (.reg .a)
  | .set_6_B => .assignBit 6 (.reg .b)
  | .set_6_C => .assignBit 6 (.reg .c)
  | .set_6_D => .assignBit 6 (.reg .d)
  | .set_6_E => .assignBit 6 (.reg .e)
  | .set_6_H => .assignBit 6 (.reg .h)
  | .set_6_L => .assignBit 6 (.reg .l)
  | .set_6_mHL => .assignBit 6 .memHL
  | .set_6_A => .assignBit 6 (.reg .a)
  | .set_7_B => .assignBit 7 (.reg .b)
  | .set_7_C => .assignBit 7 (.reg .c)
  | .set_7_D => .assignBit 7 (.reg .d)
  | .set_7_E => .assignBit 7 (.reg .e)
  | .set_7_H => .assignBit 7 (.reg .h)
  | .set_7_L => .assignBit 7 (.reg .l)
  | .set_7_mHL => .assignBit 7 .memHL
  | .set_7_A => .assignBit 7 (.reg .a)

/-- The meaning of an instruction is that of its shape. -/
theorem exec_eq (i : Instr) (s : State) : exec i s = (shapeOf i).run s := by cases i <;> rfl

end Sys2Proof.Machine
end

