-- ==== Sys2Proof/Laws/Effect.lean ====
section
/-! SUPPORT. Everything an instruction can do to memory, the picture unit and the host's interface: stores, and nothing
else. `exec_effect` is the one lemma about all 511 meanings that the invariant proofs cite. -/

namespace Sys2Proof.Machine

/-- The two states agree on everything but the CPU's registers, its modes and the status. -/
structure SameStore (s t : State) : Prop where
  elapsed : t.elapsed = s.elapsed
  mem : t.mem = s.mem
  budget : t.budget = s.budget
  ended : t.ended = s.ended
  joypad : t.joypad = s.joypad
  lcdOn : t.lcdOn = s.lcdOn
  bgOn : t.bgOn = s.bgOn
  spriteOn : t.spriteOn = s.spriteOn
  winOn : t.winOn = s.winOn
  tileUnsigned : t.tileUnsigned = s.tileUnsigned
  bgMap : t.bgMap = s.bgMap
  winMap : t.winMap = s.winMap
  mode : t.mode = s.mode
  scanline : t.scanline = s.scanline
  nextEvent : t.nextEvent = s.nextEvent
  tiles : t.tiles = s.tiles
  sprites : t.sprites = s.sprites
  palBg : t.palBg = s.palBg
  palObj0 : t.palObj0 = s.palObj0
  palObj1 : t.palObj1 = s.palObj1
  lines : t.lines = s.lines

theorem SameStore.refl (s : State) : SameStore s s := by constructor <;> rfl

theorem SameStore.trans {s t u : State} (h : SameStore s t) (k : SameStore t u) : SameStore s u := by
  constructor
  · exact k.elapsed.trans h.elapsed
  · exact k.mem.trans h.mem
  · exact k.budget.trans h.budget
  · exact k.ended.trans h.ended
  · exact k.joypad.trans h.joypad
  · exact k.lcdOn.trans h.lcdOn
  · exact k.bgOn.trans h.bgOn
  · exact k.spriteOn.trans h.spriteOn
  · exact k.winOn.trans h.winOn
  · exact k.tileUnsigned.trans h.tileUnsigned
  · exact k.bgMap.trans h.bgMap
  · exact k.winMap.trans h.winMap
  · exact k.mode.trans h.mode
  · exact k.scanline.trans h.scanline
  · exact k.nextEvent.trans h.nextEvent
  · exact k.tiles.trans h.tiles
  · exact k.sprites.trans h.sprites
  · exact k.palBg.trans h.palBg
  · exact k.palObj0.trans h.palObj0
  · exact k.palObj1.trans h.palObj1
  · exact k.lines.trans h.lines

theorem SameStore.raw {s t : State} (h : SameStore s t) (x : Nat) : t.raw x = s.raw x := by
  unfold State.raw; rw [h.mem]

theorem SameStore.read {s t : State} (h : SameStore s t) (x : Word) : Machine.read t x = Machine.read s x := by
  unfold Machine.read; rw [h.scanline, h.raw]

/-- A state reached by stores and by changes that leave memory and the picture unit alone. -/
inductive Effect (s : State) : State → Prop where
  | refl : Effect s s
  | store {t : State} (k : Word) (v : Byte) : Effect s t → Effect s (write k v t)
  | cpu {t u : State} : Effect s t → SameStore t u → Effect s u

theorem Effect.same {s t : State} (h : SameStore s t) : Effect s t := .cpu .refl h

theorem Effect.one {s u : State} (k : Word) (v : Byte) (h : SameStore (write k v s) u) : Effect s u :=
  .cpu (.store k v .refl) h

theorem Effect.trans {s t u : State} (h : Effect s t) (k : Effect t u) : Effect s u := by
  induction k with
  | refl => exact h
  | store k v _ ih => exact .store k v ih
  | cpu _ hs ih => exact .cpu ih hs

/-- What stores keep, and what no CPU register bears on, an effect keeps. -/
theorem Effect.induct (P : State → Prop) (hs : ∀ s t, SameStore s t → P s → P t)
    (hw : ∀ k v s, P s → P (write k v s)) {s t : State} (h : Effect s t) (hp : P s) : P t := by
  induction h with
  | refl => exact hp
  | store k v _ ih => exact hw k v _ ih
  | cpu _ hst ih => exact hs _ _ hst ih

theorem setR8_same (s : State) (r : R8) (v : Byte) : SameStore s (s.setR8 r v) := by
  cases r <;> constructor <;> rfl

theorem setLoc8_effect (s : State) (x : Loc8) (v : Byte) : Effect s (s.setLoc8 x v) := by
  cases x with
  | reg r => exact .same (setR8_same s r v)
  | memHL => exact .store _ _ .refl

theorem setR16_same (s : State) (rr : R16) (v : Word) : SameStore s (s.setR16 rr v) := by
  cases rr <;> constructor <;> rfl

theorem setR16stk_same (s : State) (rr : R16Stk) (v : Word) : SameStore s (s.setR16stk rr v) := by
  cases rr <;> constructor <;> rfl

theorem push_effect (s : State) (v : Word) : Effect s (push v s) :=
  .store _ _ (.store _ _ (.same (by constructor <;> rfl)))

theorem callTo_effect (s : State) (target : Word) : Effect s (callTo target s) := by
  have h : SameStore (push s.pc s) (callTo target s) := by
    unfold callTo
    generalize push s.pc s = u
    constructor <;> rfl
  exact .cpu (push_effect s s.pc) h

theorem popPc_same (s : State) : SameStore s (popPc s) := by
  unfold popPc
  generalize read16 s s.sp = w
  constructor <;> rfl

theorem returnFromInterrupt_same (s : State) : SameStore s (returnFromInterrupt s) := by
  refine (popPc_same s).trans ?_
  unfold returnFromInterrupt
  generalize popPc s = u
  constructor <;> rfl

theorem ptrAfter_same (s : State) (p : Ptr) : SameStore s (s.ptrAfter p) := by
  cases p <;> constructor <;> rfl

theorem Effect.flags {s t : State} (h : Effect s t) (v : Byte) : Effect s (t.setF v) :=
  .cpu h (by constructor <;> rfl)

/-- What an instruction charges: a multiple of 4 from 4 to 24 (R480), or nothing where it ends the run (R313, R314). -/
inductive Charged (s u : State) (c : Nat) : Prop where
  | runs (status : u.status = s.status) (low : 4 ≤ c) (high : c ≤ 24) (four : c % 4 = 0)
  | stops (status : u.status ≠ .running) (zero : c = 0)

theorem Charged.lit {s u : State} (h : u.status = s.status) (c : Nat)
    (hc : c = 4 ∨ c = 8 ∨ c = 12 ∨ c = 16 ∨ c = 20 ∨ c = 24) : Charged s u c := by
  rcases hc with rfl | rfl | rfl | rfl | rfl | rfl <;> exact .runs h (by decide) (by decide) (by decide)

theorem locCost_lit (x : Loc8) (m n : Nat) : locCost x m n = m ∨ locCost x m n = n := by
  cases x
  · exact .inl rfl
  · exact .inr rfl

theorem ptrCost_lit (p : Ptr) : ptrCost p = 8 ∨ ptrCost p = 12 ∨ ptrCost p = 16 := by
  cases p <;> simp [ptrCost]

theorem aluCost_lit (x : AluSrc) : aluCost x = 4 ∨ aluCost x = 8 := by
  cases x with
  | loc x => exact locCost_lit x 4 8
  | imm n => exact .inr rfl

@[simp] theorem State.ptrAfter_status (s : State) (p : Ptr) : (s.ptrAfter p).status = s.status := by cases p <;> rfl
@[simp] theorem State.setR16_status (s : State) (rr : R16) (v : Word) : (s.setR16 rr v).status = s.status := by
  cases rr <;> rfl
@[simp] theorem State.setR16stk_status (s : State) (rr : R16Stk) (v : Word) : (s.setR16stk rr v).status = s.status := by
  cases rr <;> rfl
@[simp] theorem State.setLoc8_status (s : State) (x : Loc8) (v : Byte) : (s.setLoc8 x v).status = s.status := by
  cases x <;> simp [State.setLoc8]
@[simp] theorem push_status (s : State) (v : Word) : (push v s).status = s.status := by simp [push]
@[simp] theorem callTo_status (s : State) (v : Word) : (callTo v s).status = s.status := by
  show (push s.pc s).status = s.status
  simp

/-- Every shape answers a next state; all it does to the rest of the machine is to store; then it charges its cost. -/
theorem Shape.run_effect (k : Shape) (s : State) :
    ∃ u c, k.run s = .next (stepClock c u) ∧ Effect s u ∧ Charged s u c := by
  have lit : ∀ u : State, u.status = s.status → ∀ c, (c = 4 ∨ c = 8 ∨ c = 12 ∨ c = 16 ∨ c = 20 ∨ c = 24) →
      Charged s u c := fun u h c hc => .lit h c hc
  cases k with
  | copyReg => exact ⟨_, 4, rfl, .same (setR8_same _ _ _), lit _ (by simp) _ (by simp)⟩
  | loadImm => exact ⟨_, 8, rfl, .same (setR8_same _ _ _), lit _ (by simp) _ (by simp)⟩
  | loadHL => exact ⟨_, 8, rfl, .same (setR8_same _ _ _), lit _ (by simp) _ (by simp)⟩
  | storeHL => exact ⟨_, 8, rfl, .store _ _ .refl, lit _ (by simp) _ (by simp)⟩
  | storeImm => exact ⟨_, 12, rfl, .store _ _ .refl, lit _ (by simp) _ (by simp)⟩
  | loadA p =>
    exact ⟨_, ptrCost p, rfl, .cpu (.same (setR8_same _ _ _)) (ptrAfter_same _ _), lit _ (by simp) _
      (by have := ptrCost_lit p; omega)⟩
  | storeA p =>
    exact ⟨_, ptrCost p, rfl, .cpu (.store _ _ .refl) (ptrAfter_same _ _), lit _ (by simp) _
      (by have := ptrCost_lit p; omega)⟩
  | loadPair rr nn => exact ⟨_, 12, rfl, .same (setR16_same _ _ _), lit _ (by simp) _ (by simp)⟩
  | storeSp nn => exact ⟨_, 20, rfl, .store _ _ (.store _ _ .refl), lit _ (by simp) _ (by simp)⟩
  | copyHlToSp => exact ⟨{ s with sp := s.hl }, 8, rfl, .same (by constructor <;> rfl), lit _ (by rfl) _ (by simp)⟩
  | loadSpOffset e =>
    exact ⟨(s.setHL (addSpOffset s.sp e).value).setF (addSpOffset s.sp e).flags, 12, rfl,
      .same (by constructor <;> rfl), lit _ (by rfl) _ (by simp)⟩
  | pushPair rr => exact ⟨_, 16, rfl, push_effect _ _, lit _ (by simp) _ (by simp)⟩
  | popPair rr =>
    exact ⟨_, 12, rfl, .cpu (.same (by constructor <;> rfl)) (setR16stk_same (dropWord s) rr _), lit _ (by simp) _ (by simp)⟩
  | accumulate op x =>
    exact ⟨_, aluCost x, rfl, (Effect.same (setR8_same _ _ _)).flags _, lit _ (by simp) _
      (by have := aluCost_lit x; omega)⟩
  | incLoc x =>
    exact ⟨_, _, rfl, (setLoc8_effect _ _ _).flags _, lit _ (by simp) _ (by have := locCost_lit x 4 12; omega)⟩
  | decLoc x =>
    exact ⟨_, _, rfl, (setLoc8_effect _ _ _).flags _, lit _ (by simp) _ (by have := locCost_lit x 4 12; omega)⟩
  | adjustDecimal => exact ⟨_, 4, rfl, (Effect.same (setR8_same _ _ _)).flags _, lit _ (by simp) _ (by simp)⟩
  | complementA => exact ⟨_, 4, rfl, (Effect.same (setR8_same _ _ _)).flags _, lit _ (by simp) _ (by simp)⟩
  | setCarry => exact ⟨_, 4, rfl, Effect.refl.flags _, lit _ (by simp) _ (by simp)⟩
  | complementCarry => exact ⟨_, 4, rfl, Effect.refl.flags _, lit _ (by simp) _ (by simp)⟩
  | addToHl rr =>
    exact ⟨(s.setHL (addWords s.hl (s.r16 rr) s.flagZ).value).setF (addWords s.hl (s.r16 rr) s.flagZ).flags, 8, rfl,
      .same (by constructor <;> rfl), lit _ (by rfl) _ (by simp)⟩
  | incPair => exact ⟨_, 8, rfl, .same (setR16_same _ _ _), lit _ (by simp) _ (by simp)⟩
  | decPair => exact ⟨_, 8, rfl, .same (setR16_same _ _ _), lit _ (by simp) _ (by simp)⟩
  | addOffsetToSp e =>
    exact ⟨{ s with sp := (addSpOffset s.sp e).value, f := (addSpOffset s.sp e).flags }, 16, rfl,
      .same (by constructor <;> rfl), lit _ (by rfl) _ (by simp)⟩
  | jump nn => exact ⟨{ s with pc := nn }, 16, rfl, .same (by constructor <;> rfl), lit _ (by rfl) _ (by simp)⟩
  | jumpIf cc nn =>
    simp only [Shape.run, Machine.jumpIf]
    split
    · exact ⟨{ s with pc := nn }, 16, rfl, .same (by constructor <;> rfl), lit _ (by rfl) _ (by simp)⟩
    · exact ⟨s, 12, rfl, .refl, lit _ (by rfl) _ (by simp)⟩
  | jumpHl => exact ⟨{ s with pc := s.hl }, 4, rfl, .same (by constructor <;> rfl), lit _ (by rfl) _ (by simp)⟩
  | jumpRel e => exact ⟨{ s with pc := s.pc + sext16 e }, 12, rfl, .same (by constructor <;> rfl), lit _ (by rfl) _ (by simp)⟩
  | jumpRelIf cc e =>
    simp only [Shape.run, Machine.jumpRelIf]
    split
    · exact ⟨{ s with pc := s.pc + sext16 e }, 12, rfl, .same (by constructor <;> rfl), lit _ (by rfl) _ (by simp)⟩
    · exact ⟨s, 8, rfl, .refl, lit _ (by rfl) _ (by simp)⟩
  | call nn => exact ⟨_, 24, rfl, callTo_effect s nn, lit _ (by simp) _ (by simp)⟩
  | callIf cc nn =>
    simp only [Shape.run, Machine.callIf]
    split
    · exact ⟨_, 24, rfl, callTo_effect s nn, lit _ (by simp) _ (by simp)⟩
    · exact ⟨s, 12, rfl, .refl, lit _ (by rfl) _ (by simp)⟩
  | ret => exact ⟨_, 16, rfl, .same (popPc_same s), lit _ (by rfl) _ (by simp)⟩
  | retIf cc =>
    simp only [Shape.run, Machine.retIf]
    split
    · exact ⟨_, 20, rfl, .same (popPc_same s), lit _ (by rfl) _ (by simp)⟩
    · exact ⟨s, 8, rfl, .refl, lit _ (by rfl) _ (by simp)⟩
  | retInterrupt => exact ⟨_, 16, rfl, .same (returnFromInterrupt_same s), lit _ (by rfl) _ (by simp)⟩
  | restart t => exact ⟨_, 16, rfl, callTo_effect s (mk16 0 t), lit _ (by simp) _ (by simp)⟩
  | doNothing => exact ⟨s, 4, rfl, .refl, lit _ (by rfl) _ (by simp)⟩
  | disableInterrupts => exact ⟨{ s with ime := false }, 4, rfl, .same (by constructor <;> rfl), lit _ (by rfl) _ (by simp)⟩
  | enableInterrupts => exact ⟨{ s with ime := true }, 4, rfl, .same (by constructor <;> rfl), lit _ (by rfl) _ (by simp)⟩
  | enterLowPower => exact ⟨{ s with halted := true }, 4, rfl, .same (by constructor <;> rfl), lit _ (by rfl) _ (by simp)⟩
  | stopRefused n =>
    exact ⟨refuseStop (s.pc - 2) s, 0, rfl, .same (by constructor <;> rfl), .stops (by simp) rfl⟩
  | undefinedOpcode op =>
    exact ⟨raiseDecodeFailure (s.pc - 1) op s, 0, rfl, .same (by constructor <;> rfl), .stops (by simp) rfl⟩
  | rotateAcc => exact ⟨_, 4, rfl, (Effect.same (setR8_same _ _ _)).flags _, lit _ (by simp) _ (by simp)⟩
  | rotateLoc op x =>
    exact ⟨_, _, rfl, (setLoc8_effect _ _ _).flags _, lit _ (by simp) _ (by have := locCost_lit x 8 16; omega)⟩
  | testBit b x =>
    exact ⟨_, _, rfl, Effect.refl.flags _, lit _ (by simp) _ (by have := locCost_lit x 8 12; omega)⟩
  | clearBit b x =>
    exact ⟨_, _, rfl, setLoc8_effect _ _ _, lit _ (by simp) _ (by have := locCost_lit x 8 16; omega)⟩
  | assignBit b x =>
    exact ⟨_, _, rfl, setLoc8_effect _ _ _, lit _ (by simp) _ (by have := locCost_lit x 8 16; omega)⟩

/-- The same of every instruction. -/
theorem exec_effect {i : Instr} {s t : State} (h : exec i s = .next t) :
    ∃ u c, t = stepClock c u ∧ Effect s u ∧ Charged s u c := by
  obtain ⟨u, c, hu, he, hc⟩ := Shape.run_effect (shapeOf i) s
  rw [exec_eq, hu] at h
  cases h
  exact ⟨u, c, rfl, he, hc⟩

end Sys2Proof.Machine
end

