-- ==== Sys2Proof/Laws/Store.lean ====
section
/-! SUPPORT. The one inversion lemma of a store: the twelve things `Write` can do, by address (R111, R338). -/

namespace Sys2Proof.Machine

/-- What a single store of `v` at address `k` turns a state into. -/
inductive StoreEffect (k : Nat) (v : Byte) (s : State) : State → Prop where
  /-- ROM and LY: nothing. -/
  | dropped (h : k < 0x8000 ∨ k = 0xFF44) : StoreEffect k v s s
  /-- Tile data: the byte, and its row re-decoded. -/
  | tile (h : 0x8000 ≤ k) (h' : k < 0x9800) :
      StoreEffect k v s
        { s.setRaw k v with
          tiles := s.tiles.set ((k - 0x8000) / 16)
            ((s.tiles.getD ((k - 0x8000) / 16) []).set ((k - 0x8000) % 16 / 2)
              ((s.setRaw k v).memTileRow ((k - 0x8000) / 16) ((k - 0x8000) % 16 / 2))) }
  /-- OAM: the byte, and its descriptor field. -/
  | oam (h : 0xFE00 ≤ k) (h' : k ≤ 0xFE9F) :
      StoreEffect k v s
        { s.setRaw k v with
          sprites := s.sprites.set ((k - 0xFE00) / 4) ((s.sprite ((k - 0xFE00) / 4)).update ((k - 0xFE00) % 4) v) }
  /-- P1. -/
  | p1 (h : k = 0xFF00) : StoreEffect k v s (s.setRaw 0xFF00 (0xC0 ||| (v &&& 0x30) ||| s.keysFor (v &&& 0x30)))
  /-- LCDC. -/
  | lcdc (h : k = 0xFF40) : StoreEffect k v s (lcdcDecode (s.setRaw 0xFF40 v))
  /-- STAT: only the bits of its mask. -/
  | stat (h : k = 0xFF41) : StoreEffect k v s (s.setRaw 0xFF41 (maskedWrite (s.raw 0xFF41) v 0x78))
  /-- LYC: the byte, and STAT refreshed. -/
  | lyc (h : k = 0xFF45) : StoreEffect k v s (statRefresh (s.setRaw 0xFF45 v))
  /-- The three palettes. -/
  | bgp (h : k = 0xFF47) : StoreEffect k v s { s.setRaw 0xFF47 v with palBg := palDecode v }
  | obp0 (h : k = 0xFF48) : StoreEffect k v s { s.setRaw 0xFF48 v with palObj0 := palDecode v }
  | obp1 (h : k = 0xFF49) : StoreEffect k v s { s.setRaw 0xFF49 v with palObj1 := palDecode v }
  /-- Everything else, the DMA register's own byte among it: the byte. -/
  | plain (h : 0x9800 ≤ k) (ho : k < 0xFE00 ∨ 0xFE9F < k) (hp : k ≠ 0xFF00) (h0 : k ≠ 0xFF40) (h1 : k ≠ 0xFF41)
      (h4 : k ≠ 0xFF44) (h5 : k ≠ 0xFF45) (h7 : k ≠ 0xFF47) (h8 : k ≠ 0xFF48) (h9 : k ≠ 0xFF49) :
      StoreEffect k v s (s.setRaw k v)

theorem ppuRegWrite_plain (k : Nat) (v : Byte) (s : State) (h1 : k ≠ 0xFF41) (h4 : k ≠ 0xFF44) :
    ppuRegWrite k v s = some v := by
  unfold ppuRegWrite; rw [if_neg h1, if_neg h4]

theorem ppuRegAfterStore_plain (k : Nat) (s : State) (h0 : k ≠ 0xFF40) (h5 : k ≠ 0xFF45) (h7 : k ≠ 0xFF47)
    (h8 : k ≠ 0xFF48) (h9 : k ≠ 0xFF49) : ppuRegAfterStore k s = s := by
  unfold ppuRegAfterStore; rw [if_neg h0, if_neg h5, if_neg h7, if_neg h8, if_neg h9]

/-- Every single store is one of the effects, decided by its address. -/
theorem writeNoDma_effect (addr : Word) (v : Byte) (s : State) :
    StoreEffect addr.toNat v s (writeNoDma addr v s) := by
  unfold writeNoDma
  dsimp only
  generalize addr.toNat = k
  split
  · next h => exact .dropped (.inl h)
  · next hrom =>
    split
    · next hv =>
      unfold ppuVramWrite
      split
      · next ht => exact .tile (by omega) ht
      · exact .plain (by omega) (by omega) (by omega) (by omega) (by omega) (by omega) (by omega) (by omega) (by omega)
          (by omega)
    · next hv =>
      split
      · next ho =>
        have : (s.setRaw k v).raw k = v := by simp
        unfold ppuOamWrite
        rw [this]
        exact .oam ho.1 ho.2
      · next ho =>
        split
        · next hp => exact hp ▸ .p1 rfl
        · next hp =>
          split
          · next hr =>
            by_cases h1 : k = 0xFF41
            · subst h1; exact .stat rfl
            by_cases h4 : k = 0xFF44
            · subst h4; exact .dropped (.inr rfl)
            rw [ppuRegWrite_plain k v s h1 h4]
            dsimp only
            by_cases h0 : k = 0xFF40
            · subst h0; exact .lcdc rfl
            by_cases h5 : k = 0xFF45
            · subst h5; exact .lyc rfl
            by_cases h7 : k = 0xFF47
            · subst h7
              have e : ppuRegAfterStore 0xFF47 (s.setRaw 0xFF47 v) = { s.setRaw 0xFF47 v with palBg := palDecode v } := by
                simp [ppuRegAfterStore]
              rw [e]; exact .bgp rfl
            by_cases h8 : k = 0xFF48
            · subst h8
              have e : ppuRegAfterStore 0xFF48 (s.setRaw 0xFF48 v) = { s.setRaw 0xFF48 v with palObj0 := palDecode v } := by
                simp [ppuRegAfterStore]
              rw [e]; exact .obp0 rfl
            by_cases h9 : k = 0xFF49
            · subst h9
              have e : ppuRegAfterStore 0xFF49 (s.setRaw 0xFF49 v) = { s.setRaw 0xFF49 v with palObj1 := palDecode v } := by
                simp [ppuRegAfterStore]
              rw [e]; exact .obp1 rfl
            rw [ppuRegAfterStore_plain k _ h0 h5 h7 h8 h9]
            exact .plain (by omega) (by omega) hp h0 h1 h4 h5 h7 h8 h9
          · next hr =>
            exact .plain (by omega) (by omega) hp (by omega) (by omega) (by omega) (by omega) (by omega) (by omega)
              (by omega)

end Sys2Proof.Machine
end

