-- ==== Sys2Proof/Laws/Kept.lean ====
section
/-! SUPPORT. The invariants of Safety.lean under one store, and through `write_induct` under `write`. Each invariant comes
with the lemma that says which bytes and fields it looks at. -/

namespace Sys2Proof.Machine

/-! ## What each invariant looks at -/

theorem LcdcInv.congr {s t : State} (h : LcdcInv s) (hr : t.raw 0xFF40 = s.raw 0xFF40) (e1 : t.lcdOn = s.lcdOn)
    (e2 : t.winMap = s.winMap) (e3 : t.winOn = s.winOn) (e4 : t.tileUnsigned = s.tileUnsigned) (e5 : t.bgMap = s.bgMap)
    (e6 : t.spriteOn = s.spriteOn) (e7 : t.bgOn = s.bgOn) : LcdcInv t :=
  ⟨by rw [hr, e1, h.lcdOn], by rw [hr, e2, h.winMap], by rw [hr, e3, h.winOn], by rw [hr, e4, h.tileUnsigned],
    by rw [hr, e5, h.bgMap], by rw [hr, e6, h.spriteOn], by rw [hr, e7, h.bgOn]⟩

theorem ShapeInv.congr {s t : State} (h : ShapeInv s) (e1 : t.tiles = s.tiles) (e2 : t.sprites = s.sprites)
    (e3 : t.lines = s.lines) : ShapeInv t := by
  obtain ⟨h1, h2, h3, h4, h5, h6⟩ := h
  constructor <;> simp only [State.cachedTileRow, e1, e2, e3] <;> assumption

theorem State.memTileRow_congr {s t : State} (n r : Nat)
    (h0 : t.raw (tileRowAddr n r) = s.raw (tileRowAddr n r))
    (h1 : t.raw (tileRowAddr n r + 1) = s.raw (tileRowAddr n r + 1)) : t.memTileRow n r = s.memTileRow n r := by
  unfold State.memTileRow; rw [h0, h1]

theorem State.memSprite_congr {s t : State} (i : Nat) (h : ∀ k < 4, t.raw (0xFE00 + 4 * i + k) = s.raw (0xFE00 + 4 * i + k)) :
    t.memSprite i = s.memSprite i := by
  have h0 := h 0 (by omega)
  have h1 := h 1 (by omega)
  have h2 := h 2 (by omega)
  have h3 := h 3 (by omega)
  unfold State.memSprite
  dsimp only
  rw [show 0xFE00 + 4 * i = 0xFE00 + 4 * i + 0 from rfl, h0, h1, h2, h3]

/-- The caches look at tile data, OAM and the palette registers only. -/
theorem CacheInv.congr {s t : State} (h : CacheInv s) (e1 : t.tiles = s.tiles) (e2 : t.sprites = s.sprites)
    (e3 : t.palBg = s.palBg) (e4 : t.palObj0 = s.palObj0) (e5 : t.palObj1 = s.palObj1)
    (hr : ∀ x, (0x8000 ≤ x ∧ x < 0x9800) ∨ (0xFE00 ≤ x ∧ x ≤ 0xFE9F) ∨ (0xFF47 ≤ x ∧ x ≤ 0xFF49) → t.raw x = s.raw x) :
    CacheInv t := by
  constructor
  · intro n hn r hr'
    rw [State.memTileRow_congr n r (hr _ (by unfold tileRowAddr; omega)) (hr _ (by unfold tileRowAddr; omega))]
    have := h.tiles n hn r hr'
    unfold State.cachedTileRow at *
    rw [e1, this]
  · intro i hi
    rw [State.memSprite_congr i (fun k hk => hr _ (by omega))]
    have := h.sprites i hi
    unfold State.sprite at *
    rw [e2, this]
  · rw [e3, h.palBg, hr _ (by omega)]
  · rw [e4, h.palObj0, hr _ (by omega)]
  · rw [e5, h.palObj1, hr _ (by omega)]

/-- STAT's bits look at the byte, LYC, the mode, the scanline and `lcd_on`. -/
theorem StatInv.congr {s t : State} (h : StatInv s) (hr : t.raw 0xFF41 = s.raw 0xFF41) (hl : t.raw 0xFF45 = s.raw 0xFF45)
    (e1 : t.lcdOn = s.lcdOn) (e2 : t.scanline = s.scanline) (e3 : t.mode = s.mode) : StatInv t := by
  unfold StatInv State.statBits State.coincidence State.statMode at *
  rw [hr, hl, e1, e2, e3, h]

theorem State.keysFor_congr {s t : State} (h : t.joypad = s.joypad) (sel : Byte) : t.keysFor sel = s.keysFor sel := by
  unfold State.keysFor; rw [h]

theorem JoypadInv.congr {s t : State} (h : JoypadInv s) (hr : t.raw 0xFF00 = s.raw 0xFF00) (e : t.joypad = s.joypad) :
    JoypadInv t := by
  unfold JoypadInv at *; rw [hr, State.keysFor_congr e]; exact h

theorem ScanlineInv.congr {s t : State} (h : ScanlineInv s) (e1 : t.lcdOn = s.lcdOn) (e2 : t.scanline = s.scanline)
    (e3 : t.mode = s.mode) : ScanlineInv t := by
  obtain ⟨h1, h2, h3, h4⟩ := h
  constructor <;> simpa only [e1, e2, e3]

/-! ## Bits -/

/-- The keys never reach the select bits. -/
theorem State.p1_select (s : State) (v : Byte) :
    (0xC0 ||| (v &&& 0x30) ||| s.keysFor (v &&& 0x30)) &&& 0x30 = v &&& 0x30 := by
  unfold State.keysFor
  apply BitVec.eq_of_getLsbD_eq
  intro i hi
  have : i = 0 ∨ i = 1 ∨ i = 2 ∨ i = 3 ∨ i = 4 ∨ i = 5 ∨ i = 6 ∨ i = 7 := by omega
  rcases this with rfl | rfl | rfl | rfl | rfl | rfl | rfl | rfl <;> split <;> split <;> simp

/-- A select value with nothing but select bits. -/
theorem and_30_idem (v : Byte) : v &&& 0x30 &&& 0x30 = v &&& 0x30 := by
  rw [BitVec.and_assoc]; rfl

/-- The bits of STAT outside its mask are kept by a normal write (R61). -/
theorem stat_normalWrite (old v : Byte) : maskedWrite old v 0x78 &&& 0x87 = old &&& 0x87 := by
  unfold maskedWrite
  apply BitVec.eq_of_getLsbD_eq
  intro i hi
  have : i = 0 ∨ i = 1 ∨ i = 2 ∨ i = 3 ∨ i = 4 ∨ i = 5 ∨ i = 6 ∨ i = 7 := by omega
  rcases this with rfl | rfl | rfl | rfl | rfl | rfl | rfl | rfl <;> simp

/-- A refresh leaves STAT current: bits 2:0 the computed ones, bit 7 as it was (R62, R346). -/
theorem stat_privWrite (old bits : Byte) (hb : bits &&& 0xF8 = 0) (h7 : old.getLsbD 7 = false) :
    maskedWrite old bits 0x07 &&& 0x87 = bits := by
  unfold maskedWrite
  have hb' : ∀ i, 3 ≤ i → i < 8 → bits.getLsbD i = false := by
    intro i h3 h8
    have := congrArg (fun b => BitVec.getLsbD b i) hb
    have hi : i = 3 ∨ i = 4 ∨ i = 5 ∨ i = 6 ∨ i = 7 := by omega
    rcases hi with rfl | rfl | rfl | rfl | rfl <;> simpa using this
  apply BitVec.eq_of_getLsbD_eq
  intro i hi
  have : i = 0 ∨ i = 1 ∨ i = 2 ∨ i = 3 ∨ i = 4 ∨ i = 5 ∨ i = 6 ∨ i = 7 := by omega
  rcases this with rfl | rfl | rfl | rfl | rfl | rfl | rfl | rfl <;> simp_all

theorem State.statBits_high (s : State) : s.statBits &&& 0xF8 = 0 := by
  unfold State.statBits
  generalize BitVec.ofBool s.coincidence = k
  generalize s.statMode = m
  revert k m
  decide

theorem State.statBits_bit7 (s : State) : s.statBits.getLsbD 7 = false := by
  have := congrArg (fun b => BitVec.getLsbD b 7) s.statBits_high
  simpa using this

theorem StatInv.bit7 {s : State} (h : StatInv s) : (s.raw 0xFF41).getLsbD 7 = false := by
  have := congrArg (fun b => BitVec.getLsbD b 7) h
  rw [s.statBits_bit7] at this
  simpa using this

/-- Right after a refresh STAT is current, provided its bit 7 was clear. -/
theorem statRefresh_statInv (s : State) (h7 : (s.raw 0xFF41).getLsbD 7 = false) : StatInv (statRefresh s) := by
  unfold StatInv
  have e : (statRefresh s).statBits = s.statBits := by
    unfold State.statBits State.coincidence State.statMode
    simp
    rfl
  rw [e]
  simp only [statRefresh_raw, if_true]
  exact stat_privWrite _ _ s.statBits_high h7

/-! ## LCDC -/

/-- The three things a store to LCDC can do (R340 to R342). -/
theorem lcdcDecode_cases (s : State) :
    (s.lcdOn = false ∧ (lcdcFlags s).lcdOn = true ∧
      lcdcDecode s = statRefresh { lcdcFlags s with scanline := 0, mode := .spriteSearch, nextEvent := s.elapsed + 80 }) ∨
    (s.lcdOn = true ∧ (lcdcFlags s).lcdOn = false ∧
      lcdcDecode s = statRefresh { lcdcFlags s with scanline := 0, mode := .hblank }) ∨
    ((lcdcFlags s).lcdOn = s.lcdOn ∧ lcdcDecode s = lcdcFlags s) := by
  unfold lcdcDecode lcdEnable lcdDisable
  cases h : s.lcdOn <;> cases h' : (lcdcFlags s).lcdOn <;> simp [h']
  rfl

theorem lcdcFlags_inv (s : State) : LcdcInv (lcdcFlags s) := by constructor <;> rfl

/-! ## One store -/

/-- The invariants a store keeps together: all of `Inv` but the flags register's and the clock's. -/
structure StoreInv (s : State) : Prop where
  memory : MemoryInv s
  shape : ShapeInv s
  lcdc : LcdcInv s
  caches : CacheInv s
  stat : StatInv s
  joypad : JoypadInv s
  scanline : ScanlineInv s

theorem setRaw_memory {s : State} (k : Nat) (v : Byte) (hk : k < 65536) (h : MemoryInv s) : MemoryInv (s.setRaw k v) :=
  Memory.wf_set s.mem k v hk h

theorem ShapeInv.setTile {s : State} (h : ShapeInv s) {n r : Nat} (hn : n < 384) (row : List Colour)
    (hrow : row.length = 8) :
    ShapeInv { s with tiles := s.tiles.set n ((s.tiles.getD n []).set r row) } := by
  obtain ⟨h1, h2, h3, h4, h5, h6⟩ := h
  refine ⟨by simpa using h1, ?_, ?_, h4, h5, h6⟩
  · intro t ht
    by_cases e : t = n
    · subst e
      have := h2 t ht
      simp [h1, ht] at this ⊢
      exact this
    · have := h2 t ht
      simpa [List.getElem?_set, Ne.symm e] using this
  · intro t ht q hq
    have h2t := h2 t ht
    have := h3 t ht q hq
    unfold State.cachedTileRow at this ⊢
    by_cases e : t = n
    · subst e
      by_cases e' : q = r
      · subst e'
        simp [h1, ht] at this h2t ⊢
        simp [h2t, hq, hrow]
      · simp [h1, ht, Ne.symm e'] at this ⊢
        exact this
    · simpa [List.getElem?_set, Ne.symm e] using this

theorem tileRow_length (lo hi : Byte) : (tileRow lo hi).length = 8 := rfl

/-- A tile row just set, and every other row. -/
theorem cachedTileRow_setTile {s : State} (h : ShapeInv s) {n r : Nat} (hn : n < 384) (hr : r < 8) (row : List Colour)
    (t q : Nat) :
    State.cachedTileRow { s with tiles := s.tiles.set n ((s.tiles.getD n []).set r row) } t q =
      if t = n ∧ q = r then row else s.cachedTileRow t q := by
  have h1 := h.tiles
  have h2 := h.rows n hn
  unfold State.cachedTileRow
  by_cases e : t = n
  · subst e
    by_cases e' : q = r
    · subst e'
      simp [h1, hn] at h2 ⊢
      simp [h2, hr]
    · simp [h1, hn, Ne.symm e', e']
  · simp [Ne.symm e, e]

theorem Sprite.update_eq (sp q : Sprite) (k : Nat) (b0 b1 b2 b3 : Byte)
    (h : sp = (((Sprite.zero.update 0 b0).update 1 b1).update 2 b2).update 3 b3) (v : Byte) (hk : k < 4)
    (hq : q = (((Sprite.zero.update 0 (if k = 0 then v else b0)).update 1 (if k = 1 then v else b1)).update 2
      (if k = 2 then v else b2)).update 3 (if k = 3 then v else b3)) : sp.update k v = q := by
  subst h hq
  have : k = 0 ∨ k = 1 ∨ k = 2 ∨ k = 3 := by omega
  rcases this with rfl | rfl | rfl | rfl <;> rfl

/-- The tile cache looks at tile data only. -/
theorem CacheInv.tiles_congr {s t : State} (h : CacheInv s) (e : t.tiles = s.tiles)
    (hr : ∀ x, 0x8000 ≤ x ∧ x < 0x9800 → t.raw x = s.raw x) :
    ∀ n < 384, ∀ r < 8, t.cachedTileRow n r = t.memTileRow n r := by
  intro n hn r hr'
  rw [State.memTileRow_congr n r (hr _ (by unfold tileRowAddr; omega)) (hr _ (by unfold tileRowAddr; omega)),
    ← h.tiles n hn r hr']
  unfold State.cachedTileRow
  rw [e]

/-- The sprite table looks at OAM only. -/
theorem CacheInv.sprites_congr {s t : State} (h : CacheInv s) (e : t.sprites = s.sprites)
    (hr : ∀ x, 0xFE00 ≤ x ∧ x ≤ 0xFE9F → t.raw x = s.raw x) : ∀ i < 40, t.sprite i = t.memSprite i := by
  intro i hi
  rw [State.memSprite_congr i (fun k hk => hr _ (by omega)), ← h.sprites i hi]
  unfold State.sprite
  rw [e]

/-- The sprite table after one OAM store. -/
theorem sprites_setOam {s : State} (h : CacheInv s) (hs : ShapeInv s) {k : Nat} (v : Byte) (h8 : 0xFE00 ≤ k)
    (h9 : k ≤ 0xFE9F) : ∀ i < 40,
    State.sprite { s.setRaw k v with
      sprites := s.sprites.set ((k - 0xFE00) / 4) ((s.sprite ((k - 0xFE00) / 4)).update ((k - 0xFE00) % 4) v) } i =
    State.memSprite (s.setRaw k v) i := by
  intro i hi
  have hl := hs.sprites
  unfold State.sprite
  by_cases e : i = (k - 0xFE00) / 4
  · subst e
    rw [List.getD_eq_getElem?_getD, List.getElem?_set_self (by simpa [hl] using hi)]
    rw [Option.getD_some]
    refine Sprite.update_eq _ _ _ (s.raw (0xFE00 + 4 * ((k - 0xFE00) / 4))) (s.raw (0xFE00 + 4 * ((k - 0xFE00) / 4) + 1))
      (s.raw (0xFE00 + 4 * ((k - 0xFE00) / 4) + 2)) (s.raw (0xFE00 + 4 * ((k - 0xFE00) / 4) + 3)) (h.sprites _ hi) v
      (by omega) ?_
    have hb : ∀ j < 4, (s.setRaw k v).raw (0xFE00 + 4 * ((k - 0xFE00) / 4) + j) =
        if (k - 0xFE00) % 4 = j then v else s.raw (0xFE00 + 4 * ((k - 0xFE00) / 4) + j) := by
      intro j hj
      rw [State.raw_setRaw]
      by_cases ej : (k - 0xFE00) % 4 = j
      · rw [if_pos (by omega), if_pos ej]
      · rw [if_neg (by omega), if_neg ej]
    unfold State.memSprite
    dsimp only
    have h0 := hb 0 (by omega)
    rw [Nat.add_zero] at h0
    rw [h0, hb 1 (by omega), hb 2 (by omega), hb 3 (by omega)]
  · rw [List.getD_eq_getElem?_getD, List.getElem?_set_ne (Ne.symm e), ← List.getD_eq_getElem?_getD,
      State.memSprite_congr (t := s.setRaw k v) (s := s) i
        (fun j hj => (State.raw_setRaw s _ _ _).trans (if_neg (by omega)))]
    exact h.sprites i hi

theorem storeEffect_memory {k : Nat} {v : Byte} {s t : State} (hk : k < 65536) (he : StoreEffect k v s t)
    (h : MemoryInv s) : MemoryInv t := by
  cases he with
  | dropped => exact h
  | tile => exact setRaw_memory _ _ hk h
  | oam => exact setRaw_memory _ _ hk h
  | p1 => exact setRaw_memory _ _ (by omega) h
  | lcdc =>
    rcases lcdcDecode_cases (s.setRaw 0xFF40 v) with ⟨-, -, e⟩ | ⟨-, -, e⟩ | ⟨-, e⟩ <;> rw [e]
    · exact setRaw_memory _ _ (by omega) (setRaw_memory (s := s) _ _ (by omega) h)
    · exact setRaw_memory _ _ (by omega) (setRaw_memory (s := s) _ _ (by omega) h)
    · exact setRaw_memory (s := s) _ _ (by omega) h
  | stat => exact setRaw_memory _ _ (by omega) h
  | lyc => exact setRaw_memory _ _ (by omega) (setRaw_memory _ _ (by omega) h)
  | bgp => exact setRaw_memory (s := s) _ _ (by omega) h
  | obp0 => exact setRaw_memory (s := s) _ _ (by omega) h
  | obp1 => exact setRaw_memory (s := s) _ _ (by omega) h
  | plain => exact setRaw_memory _ _ hk h

theorem storeEffect_shape {k : Nat} {v : Byte} {s t : State} (he : StoreEffect k v s t) (h : ShapeInv s) :
    ShapeInv t := by
  cases he with
  | tile h8 h9 => exact (h.setTile (by omega) _ (tileRow_length _ _)).congr rfl rfl rfl
  | oam h8 h9 =>
    obtain ⟨h1, h2, h3, h4, h5, h6⟩ := h
    exact ⟨h1, h2, h3, by simpa using h4, h5, h6⟩
  | lcdc =>
    rcases lcdcDecode_cases (s.setRaw 0xFF40 v) with ⟨-, -, e⟩ | ⟨-, -, e⟩ | ⟨-, e⟩ <;> rw [e] <;>
      exact h.congr rfl rfl rfl
  | dropped => exact h
  | p1 => exact h.congr rfl rfl rfl
  | stat => exact h.congr rfl rfl rfl
  | lyc => exact h.congr rfl rfl rfl
  | bgp => exact h.congr rfl rfl rfl
  | obp0 => exact h.congr rfl rfl rfl
  | obp1 => exact h.congr rfl rfl rfl
  | plain => exact h.congr rfl rfl rfl

theorem storeEffect_lcdc {k : Nat} {v : Byte} {s t : State} (he : StoreEffect k v s t) (h : LcdcInv s) : LcdcInv t := by
  cases he with
  | lcdc =>
    have hf := lcdcFlags_inv (s.setRaw 0xFF40 v)
    have hr := lcdcDecode_raw 0xFF40 (s.setRaw 0xFF40 v) (by omega)
    rcases lcdcDecode_cases (s.setRaw 0xFF40 v) with ⟨-, -, e⟩ | ⟨-, -, e⟩ | ⟨-, e⟩ <;> rw [e] at hr ⊢ <;>
      exact hf.congr hr rfl rfl rfl rfl rfl rfl rfl
  | dropped => exact h
  | tile => exact h.congr (s := s) ((State.raw_setRaw s _ _ _).trans (if_neg (by omega))) rfl rfl rfl rfl rfl rfl rfl
  | oam => exact h.congr (s := s) ((State.raw_setRaw s _ _ _).trans (if_neg (by omega))) rfl rfl rfl rfl rfl rfl rfl
  | p1 => exact h.congr (by simp) rfl rfl rfl rfl rfl rfl rfl
  | stat => exact h.congr (by simp) rfl rfl rfl rfl rfl rfl rfl
  | lyc => exact h.congr (by simp) rfl rfl rfl rfl rfl rfl rfl
  | bgp => exact h.congr (s := s) ((State.raw_setRaw s _ _ _).trans (if_neg (by omega))) rfl rfl rfl rfl rfl rfl rfl
  | obp0 => exact h.congr (s := s) ((State.raw_setRaw s _ _ _).trans (if_neg (by omega))) rfl rfl rfl rfl rfl rfl rfl
  | obp1 => exact h.congr (s := s) ((State.raw_setRaw s _ _ _).trans (if_neg (by omega))) rfl rfl rfl rfl rfl rfl rfl
  | plain => exact h.congr ((State.raw_setRaw s _ _ _).trans (if_neg (by omega))) rfl rfl rfl rfl rfl rfl rfl

theorem storeEffect_caches {k : Nat} {v : Byte} {s t : State} (he : StoreEffect k v s t) (hs : ShapeInv s)
    (h : CacheInv s) : CacheInv t := by
  have other : ∀ x w, x ≠ k → (s.setRaw k w).raw x = s.raw x := fun x w hx => (State.raw_setRaw s _ _ _).trans (if_neg hx)
  have self : ∀ w, (s.setRaw k w).raw k = w := fun w => (State.raw_setRaw s _ _ _).trans (if_pos rfl)
  cases he with
  | dropped => exact h
  | tile h8 h9 =>
    refine ⟨?_, h.sprites_congr rfl (fun x hx => other _ v (by omega)), h.palBg.trans ?_, h.palObj0.trans ?_,
      h.palObj1.trans ?_⟩
    · intro n hn r hr
      have hc := cachedTileRow_setTile (s := s) hs (n := (k - 0x8000) / 16) (r := (k - 0x8000) % 16 / 2) (by omega)
        (by omega) ((s.setRaw k v).memTileRow ((k - 0x8000) / 16) ((k - 0x8000) % 16 / 2)) n r
      refine Eq.trans hc ?_
      split
      · next e => rw [e.1, e.2]; rfl
      · next e =>
        rw [h.tiles n hn r hr]
        refine (State.memTileRow_congr (t := s.setRaw k v) n r (other _ v ?_) (other _ v ?_)).symm <;>
          · unfold tileRowAddr; omega
    · exact congrArg palDecode (other _ v (by omega)).symm
    · exact congrArg palDecode (other _ v (by omega)).symm
    · exact congrArg palDecode (other _ v (by omega)).symm
  | oam h8 h9 =>
    refine ⟨h.tiles_congr rfl (fun x hx => other _ v (by omega)), ?_, h.palBg.trans ?_, h.palObj0.trans ?_,
      h.palObj1.trans ?_⟩
    · exact sprites_setOam h hs v (by omega) (by omega)
    · exact congrArg palDecode (other _ v (by omega)).symm
    · exact congrArg palDecode (other _ v (by omega)).symm
    · exact congrArg palDecode (other _ v (by omega)).symm
  | p1 h0 => subst h0; exact h.congr rfl rfl rfl rfl rfl (fun x hx => other _ _ (by omega))
  | lcdc h0 =>
    subst h0
    have hr : ∀ x, x ≠ 0xFF40 → x ≠ 0xFF41 → (lcdcDecode (s.setRaw 0xFF40 v)).raw x = s.raw x := fun x hx hx' => by
      rw [lcdcDecode_raw _ _ hx', other _ _ hx]
    rcases lcdcDecode_cases (s.setRaw 0xFF40 v) with ⟨-, -, e⟩ | ⟨-, -, e⟩ | ⟨-, e⟩ <;> rw [e] at hr ⊢ <;>
      exact h.congr rfl rfl rfl rfl rfl (fun x hx => hr x (by omega) (by omega))
  | stat h0 => subst h0; exact h.congr rfl rfl rfl rfl rfl (fun x hx => other _ _ (by omega))
  | lyc h0 =>
    subst h0
    refine h.congr rfl rfl rfl rfl rfl (fun x hx => ?_)
    rw [statRefresh_raw, if_neg (by omega), other _ _ (by omega)]
  | bgp h0 =>
    subst h0
    exact ⟨h.tiles_congr rfl (fun x hx => other _ v (by omega)), h.sprites_congr rfl (fun x hx => other _ v (by omega)),
      (congrArg palDecode (self v)).symm, h.palObj0.trans (congrArg palDecode (other _ v (by omega)).symm),
      h.palObj1.trans (congrArg palDecode (other _ v (by omega)).symm)⟩
  | obp0 h0 =>
    subst h0
    exact ⟨h.tiles_congr rfl (fun x hx => other _ v (by omega)), h.sprites_congr rfl (fun x hx => other _ v (by omega)),
      h.palBg.trans (congrArg palDecode (other _ v (by omega)).symm), (congrArg palDecode (self v)).symm,
      h.palObj1.trans (congrArg palDecode (other _ v (by omega)).symm)⟩
  | obp1 h0 =>
    subst h0
    exact ⟨h.tiles_congr rfl (fun x hx => other _ v (by omega)), h.sprites_congr rfl (fun x hx => other _ v (by omega)),
      h.palBg.trans (congrArg palDecode (other _ v (by omega)).symm),
      h.palObj0.trans (congrArg palDecode (other _ v (by omega)).symm), (congrArg palDecode (self v)).symm⟩
  | plain h8 ho hp h0 h1 h4 h5 h7 h8' h9 =>
    exact h.congr rfl rfl rfl rfl rfl (fun x hx => other x v (by omega))

theorem storeEffect_stat {k : Nat} {v : Byte} {s t : State} (he : StoreEffect k v s t) (h : StatInv s) : StatInv t := by
  have other : ∀ x w, x ≠ k → (s.setRaw k w).raw x = s.raw x := fun x w hx => (State.raw_setRaw s _ _ _).trans (if_neg hx)
  cases he with
  | dropped => exact h
  | tile => exact h.congr (other _ v (by omega)) (other _ v (by omega)) rfl rfl rfl
  | oam => exact h.congr (other _ v (by omega)) (other _ v (by omega)) rfl rfl rfl
  | p1 => exact h.congr (by simp) (by simp) rfl rfl rfl
  | lcdc =>
    have h7 : ((s.setRaw 0xFF40 v).raw 0xFF41).getLsbD 7 = false := by simpa using h.bit7
    rcases lcdcDecode_cases (s.setRaw 0xFF40 v) with ⟨-, -, e⟩ | ⟨-, -, e⟩ | ⟨e', e⟩ <;> rw [e]
    · exact statRefresh_statInv _ h7
    · exact statRefresh_statInv _ h7
    · exact h.congr (by simp) (by simp) e' rfl rfl
  | stat =>
    have hb : (s.setRaw 0xFF41 (maskedWrite (s.raw 0xFF41) v 0x78)).statBits = s.statBits := by
      unfold State.statBits State.coincidence State.statMode
      rw [State.raw_setRaw, if_neg (by omega)]
      rfl
    unfold StatInv
    rw [hb, State.raw_setRaw, if_pos rfl, stat_normalWrite]
    exact h
  | lyc => exact statRefresh_statInv _ (by simpa using h.bit7)
  | bgp => exact h.congr (by simp [State.raw]) (by simp [State.raw]) rfl rfl rfl
  | obp0 => exact h.congr (by simp [State.raw]) (by simp [State.raw]) rfl rfl rfl
  | obp1 => exact h.congr (by simp [State.raw]) (by simp [State.raw]) rfl rfl rfl
  | plain => exact h.congr (other _ v (by omega)) (other _ v (by omega)) rfl rfl rfl

theorem storeEffect_joypad {k : Nat} {v : Byte} {s t : State} (he : StoreEffect k v s t) (h : JoypadInv s) :
    JoypadInv t := by
  have other : ∀ x w, x ≠ k → (s.setRaw k w).raw x = s.raw x := fun x w hx => (State.raw_setRaw s _ _ _).trans (if_neg hx)
  cases he with
  | dropped => exact h
  | tile => exact h.congr (other _ v (by omega)) rfl
  | oam => exact h.congr (other _ v (by omega)) rfl
  | p1 =>
    have e : (s.setRaw 0xFF00 (0xC0 ||| (v &&& 0x30) ||| s.keysFor (v &&& 0x30))).raw 0xFF00 =
        0xC0 ||| (v &&& 0x30) ||| s.keysFor (v &&& 0x30) := (State.raw_setRaw s _ _ _).trans (if_pos rfl)
    unfold JoypadInv
    rw [e, s.p1_select v]
    rfl
  | lcdc =>
    have hr := lcdcDecode_raw 0xFF00 (s.setRaw 0xFF40 v) (by omega)
    refine h.congr (hr.trans (by simp)) ?_
    exact (lcdcDecode_core _).joypad
  | stat => exact h.congr (by simp) rfl
  | lyc => exact h.congr (by simp) rfl
  | bgp => exact h.congr (by simp [State.raw]) rfl
  | obp0 => exact h.congr (by simp [State.raw]) rfl
  | obp1 => exact h.congr (by simp [State.raw]) rfl
  | plain => exact h.congr (other _ v (by omega)) rfl

theorem storeEffect_scanline {k : Nat} {v : Byte} {s t : State} (he : StoreEffect k v s t) (h : ScanlineInv s) :
    ScanlineInv t := by
  cases he with
  | lcdc =>
    rcases lcdcDecode_cases (s.setRaw 0xFF40 v) with ⟨-, h', e⟩ | ⟨-, h', e⟩ | ⟨e', e⟩ <;> rw [e]
    · constructor <;> simp [statRefresh, h']
    · constructor <;> simp [statRefresh]
    · exact h.congr e' rfl rfl
  | dropped => exact h
  | tile => exact h.congr rfl rfl rfl
  | oam => exact h.congr rfl rfl rfl
  | p1 => exact h.congr rfl rfl rfl
  | stat => exact h.congr rfl rfl rfl
  | lyc => exact h.congr rfl rfl rfl
  | bgp => exact h.congr rfl rfl rfl
  | obp0 => exact h.congr rfl rfl rfl
  | obp1 => exact h.congr rfl rfl rfl
  | plain => exact h.congr rfl rfl rfl

/-- A store keeps every invariant of the picture unit, the joypad and the memory's form. -/
theorem write_storeInv (addr : Word) (v : Byte) (s : State) (h : StoreInv s) : StoreInv (write addr v s) := by
  refine write_induct StoreInv (fun k v s h => ?_) addr v s h
  have he := writeNoDma_effect k v s
  exact ⟨storeEffect_memory k.isLt he h.memory, storeEffect_shape he h.shape, storeEffect_lcdc he h.lcdc,
    storeEffect_caches he h.shape h.caches, storeEffect_stat he h.stat, storeEffect_joypad he h.joypad,
    storeEffect_scanline he h.scanline⟩

end Sys2Proof.Machine
end

