-- ==== Sys2Proof/Laws/Timing.lean ====
section
/-! SUPPORT. What the PPU timing check can change, and that it keeps the invariants. -/

namespace Sys2Proof.Machine

/-! ## Rows -/

@[simp] theorem mapRow_length (g : Nat → Shade → Shade) (row : List Shade) : (mapRow g row).length = row.length := by
  simp [mapRow]

/-- A recomputed row, entry by entry. -/
theorem mapRow_getD (g : Nat → Shade → Shade) (row : List Shade) (i : Nat) (h : i < row.length) (d : Shade) :
    (mapRow g row).getD i d = g i (row.getD i d) := by
  simp [mapRow, List.getD_eq_getElem?_getD, h]

@[simp] theorem drawSprite_length (s : State) (ly : Nat) (sp : Sprite) (row : List Shade) :
    (drawSprite s ly sp row).length = row.length := by simp [drawSprite]

@[simp] theorem drawSprites_length (s : State) (ly : Nat) (behind : Bool) (row : List Shade) :
    (drawSprites s ly behind row).length = row.length := by
  unfold drawSprites
  generalize spritesOfLine s ly behind = ps
  induction ps generalizing row with
  | nil => rfl
  | cons p ps ih => simp [ih]

@[simp] theorem drawBackground_length (s : State) (ly : Nat) (row : List Shade) :
    (drawBackground s ly row).length = row.length := by simp [drawBackground]

@[simp] theorem drawWindow_length (s : State) (ly : Nat) (row : List Shade) :
    (drawWindow s ly row).length = row.length := by simp [drawWindow]

/-- A composed line has the 176 entries of R49. -/
@[simp] theorem composeLine_length (s : State) (ly : Nat) : (composeLine s ly).length = 176 := by
  unfold composeLine
  dsimp only
  have hb : (List.replicate 176 s.palBg.p0).length = 176 := List.length_replicate
  generalize List.replicate 176 s.palBg.p0 = base at hb ⊢
  repeat' split
  all_goals simp [hb]

/-! ## Requests -/

@[simp] theorem request_raw (n x : Nat) (s : State) :
    (request n s).raw x = if x = 0xFF0F then s.raw 0xFF0F ||| lineBit n else s.raw x := State.raw_setRaw _ _ _ _

/-- A request changes no byte but IF. -/
theorem requestIf_raw (b : Bool) (n x : Nat) (s : State) (hx : x ≠ 0xFF0F) : (requestIf b n s).raw x = s.raw x := by
  unfold requestIf
  split
  · rw [request_raw, if_neg hx]
  · rfl

theorem requestIf_raw_if (b : Bool) (n : Nat) (s : State) :
    (requestIf b n s).raw 0xFF0F = if b then s.raw 0xFF0F ||| lineBit n else s.raw 0xFF0F := by
  cases b
  · rfl
  · exact (request_raw n 0xFF0F s).trans (if_pos rfl)

/-- The two states agree on everything but memory, the scanline machine and the rendered lines. -/
structure SameButScan (s t : State) : Prop where
  a : t.a = s.a
  f : t.f = s.f
  b : t.b = s.b
  c : t.c = s.c
  d : t.d = s.d
  e : t.e = s.e
  h : t.h = s.h
  l : t.l = s.l
  sp : t.sp = s.sp
  pc : t.pc = s.pc
  ime : t.ime = s.ime
  halted : t.halted = s.halted
  status : t.status = s.status
  elapsed : t.elapsed = s.elapsed
  budget : t.budget = s.budget
  ended : t.ended = s.ended
  joypad : t.joypad = s.joypad
  lcdOn : t.lcdOn = s.lcdOn
  bgOn : t.bgOn = s.bgOn
  spriteOn : t.spriteOn = s.spriteOn
  winOn : t.winOn = s.winOn
  tileUnsigned : t.tileUnsigned = s.tileUnsigned
  bgMap : t.bgMap = s.bgMap
  winMap : t.winMap = s.winMap
  tiles : t.tiles = s.tiles
  sprites : t.sprites = s.sprites
  palBg : t.palBg = s.palBg
  palObj0 : t.palObj0 = s.palObj0
  palObj1 : t.palObj1 = s.palObj1

theorem SameButScan.refl (s : State) : SameButScan s s := by constructor <;> rfl

theorem SameButScan.trans {s t u : State} (h : SameButScan s t) (k : SameButScan t u) : SameButScan s u := by
  constructor
  · exact k.a.trans h.a
  · exact k.f.trans h.f
  · exact k.b.trans h.b
  · exact k.c.trans h.c
  · exact k.d.trans h.d
  · exact k.e.trans h.e
  · exact k.h.trans h.h
  · exact k.l.trans h.l
  · exact k.sp.trans h.sp
  · exact k.pc.trans h.pc
  · exact k.ime.trans h.ime
  · exact k.halted.trans h.halted
  · exact k.status.trans h.status
  · exact k.elapsed.trans h.elapsed
  · exact k.budget.trans h.budget
  · exact k.ended.trans h.ended
  · exact k.joypad.trans h.joypad
  · exact k.lcdOn.trans h.lcdOn
  · exact k.bgOn.trans h.bgOn
  · exact k.spriteOn.trans h.spriteOn
  · exact k.winOn.trans h.winOn
  · exact k.tileUnsigned.trans h.tileUnsigned
  · exact k.bgMap.trans h.bgMap
  · exact k.winMap.trans h.winMap
  · exact k.tiles.trans h.tiles
  · exact k.sprites.trans h.sprites
  · exact k.palBg.trans h.palBg
  · exact k.palObj0.trans h.palObj0
  · exact k.palObj1.trans h.palObj1

theorem setRaw_scan (s : State) (k : Nat) (v : Byte) : SameButScan s (s.setRaw k v) := by constructor <;> rfl

theorem requestIf_scan (b : Bool) (n : Nat) (s : State) : SameButScan s (requestIf b n s) := by
  unfold requestIf
  split
  · exact setRaw_scan _ _ _
  · exact .refl s

theorem requestIf_machine (b : Bool) (n : Nat) (s : State) :
    (requestIf b n s).mode = s.mode ∧ (requestIf b n s).scanline = s.scanline ∧
      (requestIf b n s).nextEvent = s.nextEvent ∧ (requestIf b n s).lines = s.lines := by
  unfold requestIf
  split <;> exact ⟨rfl, rfl, rfl, rfl⟩

/-- A plane's colour is the same in two states that agree on the tiles and the bytes below 0xFF00. -/
theorem SameButScan.planeColour {s t : State} (h : SameButScan s t) (hr : ∀ x, x < 0xFF00 → t.raw x = s.raw x) (m : TileMap)
    (x y : Nat) (hb : 32 * (y / 8) + x / 8 < 0x6000) : t.planeColour m x y = s.planeColour m x y := by
  unfold State.planeColour State.tilePixel State.cachedTileRow State.tileIndex State.mapByte
  rw [h.tiles, h.tileUnsigned, hr _ (by cases m <;> simp [TileMap.base] <;> omega)]

/-- A line composes to the same row in two states that differ only in IF, STAT, the scanline machine and the lines. -/
theorem SameButScan.composeLine {s t : State} (h : SameButScan s t)
    (hr : ∀ x, x ≠ 0xFF0F → x ≠ 0xFF41 → t.raw x = s.raw x) (ly : Nat) (hl : ly < 144) :
    Machine.composeLine t ly = Machine.composeLine s ly := by
  have hplane := fun m x y => h.planeColour (fun x hx => hr x (by omega) (by omega)) m x y
  have hsprites : ∀ b row, drawSprites t ly b row = drawSprites s ly b row := by
    intro b row
    unfold drawSprites spritesOfLine drawSprite State.tilePixel State.cachedTileRow State.sprite
    rw [h.sprites, h.tiles, h.palObj0, h.palObj1]
  have hbackground : ∀ row, drawBackground t ly row = drawBackground s ly row := by
    intro row
    unfold drawBackground
    rw [hr _ (by omega) (by omega), hr _ (by omega) (by omega), h.palBg, h.bgMap]
    dsimp only
    congr 1
    funext i old
    rw [hplane _ _ _ (by omega)]
  have hwindow : ∀ row, drawWindow t ly row = drawWindow s ly row := by
    intro row
    unfold drawWindow
    rw [hr _ (by omega) (by omega), hr _ (by omega) (by omega), h.palBg, h.winMap]
    dsimp only
    congr 1
    funext i old
    split
    · rw [hplane _ _ _ (by omega)]
    · rfl
  unfold Machine.composeLine
  rw [h.palBg, h.spriteOn, h.bgOn, h.winOn, hr _ (by omega) (by omega)]
  simp only [hsprites, hbackground, hwindow]

/-- The seven things a transition can do (R349 to R353), as the state before the interrupt requests it makes. -/
inductive Transition (s : State) : State → Prop where
  | pixelTransfer (h : s.scanline < 144) (hm : s.mode = .spriteSearch) :
      Transition s { s with mode := .pixelTransfer, nextEvent := s.nextEvent + 172 }
  | hblank (h : s.scanline < 144) (hm : s.mode = .pixelTransfer) :
      Transition s
        { s with
          lines := s.lines.set s.scanline (composeLine s s.scanline), mode := .hblank, nextEvent := s.nextEvent + 204 }
  | nextLine (h : s.scanline < 143) (hm : s.mode = .hblank) :
      Transition s { s with scanline := s.scanline + 1, mode := .spriteSearch, nextEvent := s.nextEvent + 80 }
  | enterVblank (h : s.scanline = 143) (hm : s.mode = .hblank) :
      Transition s { s with scanline := s.scanline + 1, mode := .hblank, nextEvent := s.nextEvent + 456 }
  | vblankLine (h : 144 ≤ s.scanline) (h' : s.scanline < 153) :
      Transition s { s with scanline := s.scanline + 1, nextEvent := s.nextEvent + 456 }
  | wrap (h : 153 ≤ s.scanline) :
      Transition s { s with scanline := 0, mode := .spriteSearch, nextEvent := s.nextEvent + 80 }

/-- A state and the same state with some interrupt lines requested. -/
structure Requested (u t : State) : Prop where
  same : SameButScan u t
  mode : t.mode = u.mode
  scanline : t.scanline = u.scanline
  nextEvent : t.nextEvent = u.nextEvent
  lines : t.lines = u.lines
  raw : ∀ x, x ≠ 0xFF0F → t.raw x = u.raw x
  memory : MemoryInv u → MemoryInv t

theorem Requested.refl (s : State) : Requested s s := ⟨.refl s, rfl, rfl, rfl, rfl, fun _ _ => rfl, id⟩

theorem Requested.trans {s t u : State} (h : Requested s t) (k : Requested t u) : Requested s u :=
  ⟨h.same.trans k.same, k.mode.trans h.mode, k.scanline.trans h.scanline, k.nextEvent.trans h.nextEvent,
    k.lines.trans h.lines, fun x hx => (k.raw x hx).trans (h.raw x hx), fun hm => k.memory (h.memory hm)⟩

theorem requestIf_requested (b : Bool) (n : Nat) (s : State) : Requested s (requestIf b n s) := by
  obtain ⟨h1, h2, h3, h4⟩ := requestIf_machine b n s
  refine ⟨requestIf_scan b n s, h1, h2, h3, h4, fun x hx => requestIf_raw b n x s hx, fun hm => ?_⟩
  unfold requestIf
  split
  · exact setRaw_memory _ _ (by omega) hm
  · exact hm

theorem request_requested (n : Nat) (s : State) : Requested s (request n s) := requestIf_requested true n s

/-- Every transition is one of the seven, and then requests. -/
theorem ppuTransition_cases (s : State) : ∃ u, Transition s u ∧ Requested u (ppuTransition s) := by
  unfold ppuTransition
  split
  · next h =>
    unfold vblankLineEnd
    split
    · next h' => exact ⟨_, .vblankLine h h', requestIf_requested _ _ _⟩
    · next h' => exact ⟨_, .wrap (by omega), (requestIf_requested _ _ _).trans (requestIf_requested _ _ _)⟩
  · next h =>
    split
    · next hm => exact ⟨_, .pixelTransfer (by omega) hm, requestIf_requested _ _ _⟩
    · next hm => exact ⟨_, .hblank (by omega) hm, .refl _⟩
    · next hm =>
      unfold hblankEnd
      dsimp only
      split
      · next h' => exact ⟨_, .nextLine (by omega) hm, (requestIf_requested _ _ _).trans (requestIf_requested _ _ _)⟩
      · next h' => exact ⟨_, .enterVblank (by omega) hm, (request_requested _ _).trans (requestIf_requested _ _ _)⟩

theorem Transition.scan {s u : State} (h : Transition s u) : SameButScan s u ∧ u.mem = s.mem := by
  cases h <;> exact ⟨by constructor <;> rfl, rfl⟩

/-- The timing check does nothing, or one transition and a refresh of STAT (R348). -/
theorem ppuTimingCheck_cases (s : State) :
    ((s.lcdOn = false ∨ s.elapsed < s.nextEvent) ∧ ppuTimingCheck s = s) ∨
      (s.lcdOn = true ∧ s.nextEvent ≤ s.elapsed ∧ ppuTimingCheck s = statRefresh (ppuTransition s)) := by
  unfold ppuTimingCheck
  cases h : s.lcdOn
  · simp
  · by_cases h' : s.elapsed < s.nextEvent
    · simp [h']
    · right; simp [h']; omega

/-- The timing check leaves everything but memory, the scanline machine and the lines alone. -/
theorem ppuTimingCheck_scan (s : State) : SameButScan s (ppuTimingCheck s) := by
  rcases ppuTimingCheck_cases s with ⟨-, e⟩ | ⟨-, -, e⟩ <;> rw [e]
  · exact .refl s
  · obtain ⟨u, hu, hr⟩ := ppuTransition_cases s
    exact (hu.scan.1.trans hr.same).trans (setRaw_scan _ _ _)

/-- The timing check changes no byte but IF and STAT. -/
theorem ppuTimingCheck_raw (s : State) (x : Nat) (h : x ≠ 0xFF0F) (h' : x ≠ 0xFF41) :
    (ppuTimingCheck s).raw x = s.raw x := by
  rcases ppuTimingCheck_cases s with ⟨-, e⟩ | ⟨-, -, e⟩ <;> rw [e]
  obtain ⟨u, hu, hr⟩ := ppuTransition_cases s
  rw [statRefresh_raw, if_neg h', hr.raw x h]
  unfold State.raw
  rw [hu.scan.2]

/-- The timing check keeps the invariants a store keeps. -/
theorem ppuTimingCheck_storeInv (s : State) (h : StoreInv s) : StoreInv (ppuTimingCheck s) := by
  have hraw := ppuTimingCheck_raw s
  have hscan := ppuTimingCheck_scan s
  rcases ppuTimingCheck_cases s with ⟨-, e⟩ | ⟨hon, -, e⟩
  · rw [e]; exact h
  obtain ⟨u, hu, hr⟩ := ppuTransition_cases s
  have hur : ∀ x, u.raw x = s.raw x := fun x => by unfold State.raw; rw [hu.scan.2]
  have hshape : ShapeInv (ppuTimingCheck s) := by
    obtain ⟨h1, h2, h3, h4, h5, h6⟩ := h.shape
    have hlines : (ppuTimingCheck s).lines = u.lines := by rw [e]; exact hr.lines
    have hl : u.lines.length = 144 ∧ ∀ ly < 144, (u.lines.getD ly []).length = 176 := by
      cases hu with
      | hblank hlt hm =>
        refine ⟨by simpa using h5, fun ly hly => ?_⟩
        have := h6 ly hly
        dsimp only
        rw [List.getD_eq_getElem?_getD] at this ⊢
        by_cases el : s.scanline = ly
        · subst el
          rw [List.getElem?_set_self (by omega)]
          exact composeLine_length _ _
        · rw [List.getElem?_set_ne el]
          exact this
      | _ => exact ⟨h5, h6⟩
    refine ⟨?_, ?_, ?_, ?_, by rw [hlines]; exact hl.1, by rw [hlines]; exact hl.2⟩
    · rw [hscan.tiles]; exact h1
    · rw [hscan.tiles]; exact h2
    · unfold State.cachedTileRow; rw [hscan.tiles]; exact h3
    · rw [hscan.sprites]; exact h4
  refine ⟨?_, hshape, ?_, ?_, ?_, ?_, ?_⟩
  · rw [e]
    refine setRaw_memory _ _ (by omega) (hr.memory ?_)
    unfold MemoryInv
    rw [hu.scan.2]
    exact h.memory
  · exact h.lcdc.congr (hraw _ (by omega) (by omega)) hscan.lcdOn hscan.winMap hscan.winOn hscan.tileUnsigned hscan.bgMap
      hscan.spriteOn hscan.bgOn
  · exact h.caches.congr hscan.tiles hscan.sprites hscan.palBg hscan.palObj0 hscan.palObj1
      (fun x hx => hraw x (by omega) (by omega))
  · rw [e]
    refine statRefresh_statInv _ ?_
    rw [hr.raw _ (by omega), hur]
    exact h.stat.bit7
  · exact h.joypad.congr (hraw _ (by omega) (by omega)) hscan.joypad
  · have hu' : ScanlineInv u := by
      obtain ⟨h1, h2, h3, h4⟩ := h.scanline
      cases hu <;> constructor <;> dsimp only <;> first | omega | (intro hx; simp_all)
    rw [e]
    exact hu'.congr hr.same.lcdOn hr.scanline hr.mode

end Sys2Proof.Machine
end

