-- ==== Sys2Proof/Laws/Step.lean ====
section
/-! SUPPORT. The inversion of a step: what each of its three kinds leads to, and the invariants that stores and timing
checks keep carried through an instruction and through taking an interrupt. -/

namespace Sys2Proof.Machine

/-! ## Inversion -/

theorem finishStep_next {r : Result} {t : State} (h : finishStep r = .next t) : ∃ u, r = .next u ∧ t = afterInstr u := by
  cases r with
  | next u => cases h; exact ⟨u, rfl, rfl⟩
  | fault x => cases h
  | refused x => cases h

/-- A step that answers a next state had its gate open, and was an idle tick, a dispatch or one instruction (R430,
R436). -/
theorem step_cases {s t : State} (h : step s = .next t) :
    s.gateOpen ∧
      ((s.idles = true ∧ t = ppuTimingCheck (stepClock 4 s)) ∨
        (s.idles = false ∧ s.dispatches = true ∧ t = ppuTimingCheck (dispatch (wake s))) ∨
        (s.idles = false ∧ s.dispatches = false ∧
          ∃ u, exec (fetch (wake s)).1 (fetch (wake s)).2 = .next u ∧ t = afterInstr u)) := by
  unfold step at h
  split at h
  · cases h
  · cases h
  · next hst =>
    split at h
    · cases h
    · next he =>
      split at h
      · next hb =>
        refine ⟨⟨hst, by simpa using he, hb⟩, ?_⟩
        unfold openStep at h
        split at h
        · next hi => cases h; exact .inl ⟨hi, rfl⟩
        · next hi =>
          split at h
          · next hd => cases h; exact .inr (.inl ⟨by simpa using hi, hd, rfl⟩)
          · next hd => exact .inr (.inr ⟨by simpa using hi, by simpa using hd, finishStep_next h⟩)
      · cases h

/-- The three kinds of step of an open gate, forward. -/
theorem step_open {s : State} (h : s.gateOpen) : step s = openStep s := by
  obtain ⟨h1, h2, h3⟩ := h
  unfold step
  simp [h1, h2, h3]

/-! ## The invariants through an instruction and a dispatch -/

theorem StoreInv.congr {s t : State} (h : StoreInv s) (e : SameStore s t) : StoreInv t := by
  refine ⟨?_, h.shape.congr e.tiles e.sprites e.lines,
    h.lcdc.congr (e.raw _) e.lcdOn e.winMap e.winOn e.tileUnsigned e.bgMap e.spriteOn e.bgOn,
    h.caches.congr e.tiles e.sprites e.palBg e.palObj0 e.palObj1 (fun x _ => e.raw x),
    h.stat.congr (e.raw _) (e.raw _) e.lcdOn e.scanline e.mode, h.joypad.congr (e.raw _) e.joypad,
    h.scanline.congr e.lcdOn e.scanline e.mode⟩
  unfold MemoryInv
  rw [e.mem]
  exact h.memory

theorem stepClock_storeInv {s : State} (k : Nat) (h : StoreInv s) : StoreInv (stepClock k s) := by
  obtain ⟨h1, h2, h3, h4, h5, h6, h7⟩ := h
  exact ⟨h1, h2.congr rfl rfl rfl, h3.congr rfl rfl rfl rfl rfl rfl rfl rfl,
    h4.congr rfl rfl rfl rfl rfl (fun _ _ => rfl), h5.congr rfl rfl rfl rfl rfl, h6.congr rfl rfl, h7.congr rfl rfl rfl⟩

theorem Effect.storeInv {s t : State} (h : Effect s t) (hs : StoreInv s) : StoreInv t :=
  h.induct StoreInv (fun _ _ e h => h.congr e) (fun k v s h => write_storeInv k v s h) hs

/-- A store to LCDC leaves a pixel-transfer under way only where it makes no edge. -/
theorem lcdcDecode_pixelTransfer (s : State) (hm : (lcdcDecode s).mode = .pixelTransfer) (hon : (lcdcDecode s).lcdOn = true) :
    s.lcdOn = true ∧ s.mode = .pixelTransfer ∧ (lcdcDecode s).scanline = s.scanline ∧
      (lcdcDecode s).nextEvent = s.nextEvent := by
  unfold lcdcDecode at hm hon ⊢
  dsimp only at hm hon ⊢
  split at hm
  · cases hm
  · split at hm
    · cases hm
    · next h1 h2 =>
      rw [if_neg h1, if_neg h2] at hon ⊢
      refine ⟨?_, hm, rfl, rfl⟩
      cases h : s.lcdOn
      · exact absurd (by rw [h, hon]; rfl) h1
      · rfl

/-- No store starts a pixel-transfer, and none that leaves one under way moves the scanline machine (R338, R340 to R342). -/
theorem writeNoDma_pixelTransfer (k : Word) (v : Byte) (s : State) (hm : (writeNoDma k v s).mode = .pixelTransfer)
    (hon : (writeNoDma k v s).lcdOn = true) :
    s.lcdOn = true ∧ s.mode = .pixelTransfer ∧ (writeNoDma k v s).scanline = s.scanline ∧
      (writeNoDma k v s).nextEvent = s.nextEvent := by
  have h := writeNoDma_effect k v s
  generalize writeNoDma k v s = t at hm hon h ⊢
  cases h with
  | lcdc => exact lcdcDecode_pixelTransfer _ hm hon
  | _ => exact ⟨hon, hm, rfl, rfl⟩

/-- The same of everything an instruction does to the picture unit. -/
theorem Effect.pixelTransfer {s t : State} (h : Effect s t) (hm : t.mode = .pixelTransfer) (hon : t.lcdOn = true) :
    s.lcdOn = true ∧ s.mode = .pixelTransfer ∧ t.scanline = s.scanline ∧ t.nextEvent = s.nextEvent := by
  refine h.induct (fun t => t.mode = .pixelTransfer → t.lcdOn = true →
    s.lcdOn = true ∧ s.mode = .pixelTransfer ∧ t.scanline = s.scanline ∧ t.nextEvent = s.nextEvent) ?_ ?_
    (fun hm hon => ⟨hon, hm, rfl, rfl⟩) hm hon
  · intro u w e hu hm hon
    rw [e.mode] at hm; rw [e.lcdOn] at hon; rw [e.scanline, e.nextEvent]
    exact hu hm hon
  · intro k v u hu
    refine write_induct (fun w => w.mode = .pixelTransfer → w.lcdOn = true →
      s.lcdOn = true ∧ s.mode = .pixelTransfer ∧ w.scanline = s.scanline ∧ w.nextEvent = s.nextEvent) ?_ k v u hu
    intro k v w hw hm hon
    obtain ⟨h1, h2, h3, h4⟩ := writeNoDma_pixelTransfer k v w hm hon
    obtain ⟨g1, g2, g3, g4⟩ := hw h2 h1
    exact ⟨g1, g2, h3.trans g3, h4.trans g4⟩

theorem exec_storeInv {i : Instr} {s t : State} (h : exec i s = .next t) (hs : StoreInv s) : StoreInv t := by
  obtain ⟨u, c, rfl, he, -⟩ := exec_effect h
  exact stepClock_storeInv c (he.storeInv hs)

/-- A direct update of IF keeps the invariants: it is what a store to IF does. -/
theorem setIf_storeInv {s : State} (v : Byte) (h : StoreInv s) : StoreInv (s.setRaw 0xFF0F v) :=
  write_storeInv 0xFF0F v s h

theorem dispatch_eq (s : State) :
    dispatch s = stepClock 16 (clearRequest (lowestLine s.pend)
      { push s.pc s with pc := vectorOf (lowestLine s.pend), ime := false }) := rfl

theorem dispatch_storeInv {s : State} (h : StoreInv s) : StoreInv (dispatch s) := by
  have hp : StoreInv (push s.pc s) := (push_effect s s.pc).storeInv h
  rw [dispatch_eq]
  refine stepClock_storeInv 16 (setIf_storeInv _ (hp.congr ?_))
  generalize push s.pc s = u
  constructor <;> rfl

theorem wake_same (s : State) : SameStore s (wake s) := by constructor <;> rfl

theorem advance_same (n : Nat) (s : State) : SameStore s (advance n s) := by constructor <;> rfl

theorem fetch_same (s : State) : SameStore s (fetch s).2 := advance_same _ _

end Sys2Proof.Machine
end

