-- ==== Sys2Proof/Tests/Slice0.lean ====
section
/-! SUPPORT. Tests: the well-formedness checks, the decoding of every constructor from words written out from the opcode
table, one-step vectors of spec/95_test_vectors.md, and a witness for the hypotheses of every obligation. -/

open Sys2Proof Sys2Proof.Machine

namespace Sys2Proof.Tests

/-! ## Helpers -/

/-- The next state, where there is one. -/
def next? (r : Result) : Option State :=
  match r with
  | .next t => some t
  | .fault _ => none
  | .refused _ => none

/-- A state with bytes at the power-on entry point and no budget ceiling. -/
def boot (bytes : List Byte) (s : State) : State := placeBytes 0x0100 bytes { s with budget := .max }

/-- What a step from a state leaves, seen through a view. -/
def after {α : Type} (s : State) (view : State → α) : Option α := (next? (step s)).map view

/-- A state with the byte at `HL` = 0xC000. -/
def withHL (v : Byte) (s : State) : State := { s.setRaw 0xC000 v with h := 0xC0, l := 0x00 }

/-! ## Well-formedness: an ill-formed term for each check, which the check refuses -/

theorem test_wellFormed_refuses_undefined :
    [Instr.undefined_D3, .undefined_DB, .undefined_DD, .undefined_E3, .undefined_E4, .undefined_EB, .undefined_EC,
      .undefined_ED, .undefined_F4, .undefined_FC, .undefined_FD].all (fun i => !i.wellFormed) = true := by decide

theorem test_wellFormed_accepts : (Instr.nop.wellFormed && (Instr.stop 7).wellFormed && Instr.set_7_A.wellFormed) = true := by
  decide

theorem test_romWellFormed_refuses_empty : romWellFormed [] = false := by decide

theorem test_romWellFormed_refuses_oversize : romWellFormed (List.replicate 0x8001 0) = false := by
  unfold romWellFormed; rw [List.length_replicate]; decide

theorem test_romWellFormed_accepts_full : romWellFormed (List.replicate 0x8000 0) = true := by
  unfold romWellFormed; rw [List.length_replicate]; decide

/-! ## Decoding: the word of every row, from the `encoding` column of spec/opcode_table.json, low to high opcode

Operand bytes are 0x34, or 0x34 0x12 for `nn`. -/

theorem test_decode_0x :
    decode [0b00000000] = .ok (.nop, []) ∧
    decode [0b00000001, 0x34, 0x12] = .ok (.ld_BC_nn 0x1234, []) ∧
    decode [0b00000010] = .ok (.ld_mBC_A, []) ∧
    decode [0b00000011] = .ok (.inc_BC, []) ∧
    decode [0b00000100] = .ok (.inc_B, []) ∧
    decode [0b00000101] = .ok (.dec_B, []) ∧
    decode [0b00000110, 0x34] = .ok (.ld_B_n 0x34, []) ∧
    decode [0b00000111] = .ok (.rlca, []) ∧
    decode [0b00001000, 0x34, 0x12] = .ok (.ld_mnn_SP 0x1234, []) ∧
    decode [0b00001001] = .ok (.add_HL_BC, []) ∧
    decode [0b00001010] = .ok (.ld_A_mBC, []) ∧
    decode [0b00001011] = .ok (.dec_BC, []) ∧
    decode [0b00001100] = .ok (.inc_C, []) ∧
    decode [0b00001101] = .ok (.dec_C, []) ∧
    decode [0b00001110, 0x34] = .ok (.ld_C_n 0x34, []) ∧
    decode [0b00001111] = .ok (.rrca, []) := by
  refine ⟨rfl, rfl, rfl, rfl, rfl, rfl, rfl, rfl, rfl, rfl, rfl, rfl, rfl, rfl, rfl, rfl⟩

theorem test_decode_1x :
    decode [0b00010000, 0x34] = .ok (.stop 0x34, []) ∧
    decode [0b00010001, 0x34, 0x12] = .ok (.ld_DE_nn 0x1234, []) ∧
    decode [0b00010010] = .ok (.ld_mDE_A, []) ∧
    decode [0b00010011] = .ok (.inc_DE, []) ∧
    decode [0b00010100] = .ok (.inc_D, []) ∧
    decode [0b00010101] = .ok (.dec_D, []) ∧
    decode [0b00010110, 0x34] = .ok (.ld_D_n 0x34, []) ∧
    decode [0b00010111] = .ok (.rla, []) ∧
    decode [0b00011000, 0x34] = .ok (.jr_e 0x34, []) ∧
    decode [0b00011001] = .ok (.add_HL_DE, []) ∧
    decode [0b00011010] = .ok (.ld_A_mDE, []) ∧
    decode [0b00011011] = .ok (.dec_DE, []) ∧
    decode [0b00011100] = .ok (.inc_E, []) ∧
    decode [0b00011101] = .ok (.dec_E, []) ∧
    decode [0b00011110, 0x34] = .ok (.ld_E_n 0x34, []) ∧
    decode [0b00011111] = .ok (.rra, []) := by
  refine ⟨rfl, rfl, rfl, rfl, rfl, rfl, rfl, rfl, rfl, rfl, rfl, rfl, rfl, rfl, rfl, rfl⟩

theorem test_decode_2x :
    decode [0b00100000, 0x34] = .ok (.jr_NZ_e 0x34, []) ∧
    decode [0b00100001, 0x34, 0x12] = .ok (.ld_HL_nn 0x1234, []) ∧
    decode [0b00100010] = .ok (.ld_mHLI_A, []) ∧
    decode [0b00100011] = .ok (.inc_HL, []) ∧
    decode [0b00100100] = .ok (.inc_H, []) ∧
    decode [0b00100101] = .ok (.dec_H, []) ∧
    decode [0b00100110, 0x34] = .ok (.ld_H_n 0x34, []) ∧
    decode [0b00100111] = .ok (.daa, []) ∧
    decode [0b00101000, 0x34] = .ok (.jr_Z_e 0x34, []) ∧
    decode [0b00101001] = .ok (.add_HL_HL, []) ∧
    decode [0b00101010] = .ok (.ld_A_mHLI, []) ∧
    decode [0b00101011] = .ok (.dec_HL, []) ∧
    decode [0b00101100] = .ok (.inc_L, []) ∧
    decode [0b00101101] = .ok (.dec_L, []) ∧
    decode [0b00101110, 0x34] = .ok (.ld_L_n 0x34, []) ∧
    decode [0b00101111] = .ok (.cpl, []) := by
  refine ⟨rfl, rfl, rfl, rfl, rfl, rfl, rfl, rfl, rfl, rfl, rfl, rfl, rfl, rfl, rfl, rfl⟩

theorem test_decode_3x :
    decode [0b00110000, 0x34] = .ok (.jr_NC_e 0x34, []) ∧
    decode [0b00110001, 0x34, 0x12] = .ok (.ld_SP_nn 0x1234, []) ∧
    decode [0b00110010] = .ok (.ld_mHLD_A, []) ∧
    decode [0b00110011] = .ok (.inc_SP, []) ∧
    decode [0b00110100] = .ok (.inc_mHL, []) ∧
    decode [0b00110101] = .ok (.dec_mHL, []) ∧
    decode [0b00110110, 0x34] = .ok (.ld_mHL_n 0x34, []) ∧
    decode [0b00110111] = .ok (.scf, []) ∧
    decode [0b00111000, 0x34] = .ok (.jr_C_e 0x34, []) ∧
    decode [0b00111001] = .ok (.add_HL_SP, []) ∧
    decode [0b00111010] = .ok (.ld_A_mHLD, []) ∧
    decode [0b00111011] = .ok (.dec_SP, []) ∧
    decode [0b00111100] = .ok (.inc_A, []) ∧
    decode [0b00111101] = .ok (.dec_A, []) ∧
    decode [0b00111110, 0x34] = .ok (.ld_A_n 0x34, []) ∧
    decode [0b00111111] = .ok (.ccf, []) := by
  refine ⟨rfl, rfl, rfl, rfl, rfl, rfl, rfl, rfl, rfl, rfl, rfl, rfl, rfl, rfl, rfl, rfl⟩

theorem test_decode_4x :
    decode [0b01000000] = .ok (.ld_B_B, []) ∧
    decode [0b01000001] = .ok (.ld_B_C, []) ∧
    decode [0b01000010] = .ok (.ld_B_D, []) ∧
    decode [0b01000011] = .ok (.ld_B_E, []) ∧
    decode [0b01000100] = .ok (.ld_B_H, []) ∧
    decode [0b01000101] = .ok (.ld_B_L, []) ∧
    decode [0b01000110] = .ok (.ld_B_mHL, []) ∧
    decode [0b01000111] = .ok (.ld_B_A, []) ∧
    decode [0b01001000] = .ok (.ld_C_B, []) ∧
    decode [0b01001001] = .ok (.ld_C_C, []) ∧
    decode [0b01001010] = .ok (.ld_C_D, []) ∧
    decode [0b01001011] = .ok (.ld_C_E, []) ∧
    decode [0b01001100] = .ok (.ld_C_H, []) ∧
    decode [0b01001101] = .ok (.ld_C_L, []) ∧
    decode [0b01001110] = .ok (.ld_C_mHL, []) ∧
    decode [0b01001111] = .ok (.ld_C_A, []) := by
  refine ⟨rfl, rfl, rfl, rfl, rfl, rfl, rfl, rfl, rfl, rfl, rfl, rfl, rfl, rfl, rfl, rfl⟩

theorem test_decode_5x :
    decode [0b01010000] = .ok (.ld_D_B, []) ∧
    decode [0b01010001] = .ok (.ld_D_C, []) ∧
    decode [0b01010010] = .ok (.ld_D_D, []) ∧
    decode [0b01010011] = .ok (.ld_D_E, []) ∧
    decode [0b01010100] = .ok (.ld_D_H, []) ∧
    decode [0b01010101] = .ok (.ld_D_L, []) ∧
    decode [0b01010110] = .ok (.ld_D_mHL, []) ∧
    decode [0b01010111] = .ok (.ld_D_A, []) ∧
    decode [0b01011000] = .ok (.ld_E_B, []) ∧
    decode [0b01011001] = .ok (.ld_E_C, []) ∧
    decode [0b01011010] = .ok (.ld_E_D, []) ∧
    decode [0b01011011] = .ok (.ld_E_E, []) ∧
    decode [0b01011100] = .ok (.ld_E_H, []) ∧
    decode [0b01011101] = .ok (.ld_E_L, []) ∧
    decode [0b01011110] = .ok (.ld_E_mHL, []) ∧
    decode [0b01011111] = .ok (.ld_E_A, []) := by
  refine ⟨rfl, rfl, rfl, rfl, rfl, rfl, rfl, rfl, rfl, rfl, rfl, rfl, rfl, rfl, rfl, rfl⟩

theorem test_decode_6x :
    decode [0b01100000] = .ok (.ld_H_B, []) ∧
    decode [0b01100001] = .ok (.ld_H_C, []) ∧
    decode [0b01100010] = .ok (.ld_H_D, []) ∧
    decode [0b01100011] = .ok (.ld_H_E, []) ∧
    decode [0b01100100] = .ok (.ld_H_H, []) ∧
    decode [0b01100101] = .ok (.ld_H_L, []) ∧
    decode [0b01100110] = .ok (.ld_H_mHL, []) ∧
    decode [0b01100111] = .ok (.ld_H_A, []) ∧
    decode [0b01101000] = .ok (.ld_L_B, []) ∧
    decode [0b01101001] = .ok (.ld_L_C, []) ∧
    decode [0b01101010] = .ok (.ld_L_D, []) ∧
    decode [0b01101011] = .ok (.ld_L_E, []) ∧
    decode [0b01101100] = .ok (.ld_L_H, []) ∧
    decode [0b01101101] = .ok (.ld_L_L, []) ∧
    decode [0b01101110] = .ok (.ld_L_mHL, []) ∧
    decode [0b01101111] = .ok (.ld_L_A, []) := by
  refine ⟨rfl, rfl, rfl, rfl, rfl, rfl, rfl, rfl, rfl, rfl, rfl, rfl, rfl, rfl, rfl, rfl⟩

theorem test_decode_7x :
    decode [0b01110000] = .ok (.ld_mHL_B, []) ∧
    decode [0b01110001] = .ok (.ld_mHL_C, []) ∧
    decode [0b01110010] = .ok (.ld_mHL_D, []) ∧
    decode [0b01110011] = .ok (.ld_mHL_E, []) ∧
    decode [0b01110100] = .ok (.ld_mHL_H, []) ∧
    decode [0b01110101] = .ok (.ld_mHL_L, []) ∧
    decode [0b01110110] = .ok (.halt, []) ∧
    decode [0b01110111] = .ok (.ld_mHL_A, []) ∧
    decode [0b01111000] = .ok (.ld_A_B, []) ∧
    decode [0b01111001] = .ok (.ld_A_C, []) ∧
    decode [0b01111010] = .ok (.ld_A_D, []) ∧
    decode [0b01111011] = .ok (.ld_A_E, []) ∧
    decode [0b01111100] = .ok (.ld_A_H, []) ∧
    decode [0b01111101] = .ok (.ld_A_L, []) ∧
    decode [0b01111110] = .ok (.ld_A_mHL, []) ∧
    decode [0b01111111] = .ok (.ld_A_A, []) := by
  refine ⟨rfl, rfl, rfl, rfl, rfl, rfl, rfl, rfl, rfl, rfl, rfl, rfl, rfl, rfl, rfl, rfl⟩

theorem test_decode_8x :
    decode [0b10000000] = .ok (.add_A_B, []) ∧
    decode [0b10000001] = .ok (.add_A_C, []) ∧
    decode [0b10000010] = .ok (.add_A_D, []) ∧
    decode [0b10000011] = .ok (.add_A_E, []) ∧
    decode [0b10000100] = .ok (.add_A_H, []) ∧
    decode [0b10000101] = .ok (.add_A_L, []) ∧
    decode [0b10000110] = .ok (.add_A_mHL, []) ∧
    decode [0b10000111] = .ok (.add_A_A, []) ∧
    decode [0b10001000] = .ok (.adc_A_B, []) ∧
    decode [0b10001001] = .ok (.adc_A_C, []) ∧
    decode [0b10001010] = .ok (.adc_A_D, []) ∧
    decode [0b10001011] = .ok (.adc_A_E, []) ∧
    decode [0b10001100] = .ok (.adc_A_H, []) ∧
    decode [0b10001101] = .ok (.adc_A_L, []) ∧
    decode [0b10001110] = .ok (.adc_A_mHL, []) ∧
    decode [0b10001111] = .ok (.adc_A_A, []) := by
  refine ⟨rfl, rfl, rfl, rfl, rfl, rfl, rfl, rfl, rfl, rfl, rfl, rfl, rfl, rfl, rfl, rfl⟩

theorem test_decode_9x :
    decode [0b10010000] = .ok (.sub_A_B, []) ∧
    decode [0b10010001] = .ok (.sub_A_C, []) ∧
    decode [0b10010010] = .ok (.sub_A_D, []) ∧
    decode [0b10010011] = .ok (.sub_A_E, []) ∧
    decode [0b10010100] = .ok (.sub_A_H, []) ∧
    decode [0b10010101] = .ok (.sub_A_L, []) ∧
    decode [0b10010110] = .ok (.sub_A_mHL, []) ∧
    decode [0b10010111] = .ok (.sub_A_A, []) ∧
    decode [0b10011000] = .ok (.sbc_A_B, []) ∧
    decode [0b10011001] = .ok (.sbc_A_C, []) ∧
    decode [0b10011010] = .ok (.sbc_A_D, []) ∧
    decode [0b10011011] = .ok (.sbc_A_E, []) ∧
    decode [0b10011100] = .ok (.sbc_A_H, []) ∧
    decode [0b10011101] = .ok (.sbc_A_L, []) ∧
    decode [0b10011110] = .ok (.sbc_A_mHL, []) ∧
    decode [0b10011111] = .ok (.sbc_A_A, []) := by
  refine ⟨rfl, rfl, rfl, rfl, rfl, rfl, rfl, rfl, rfl, rfl, rfl, rfl, rfl, rfl, rfl, rfl⟩

theorem test_decode_Ax :
    decode [0b10100000] = .ok (.and_A_B, []) ∧
    decode [0b10100001] = .ok (.and_A_C, []) ∧
    decode [0b10100010] = .ok (.and_A_D, []) ∧
    decode [0b10100011] = .ok (.and_A_E, []) ∧
    decode [0b10100100] = .ok (.and_A_H, []) ∧
    decode [0b10100101] = .ok (.and_A_L, []) ∧
    decode [0b10100110] = .ok (.and_A_mHL, []) ∧
    decode [0b10100111] = .ok (.and_A_A, []) ∧
    decode [0b10101000] = .ok (.xor_A_B, []) ∧
    decode [0b10101001] = .ok (.xor_A_C, []) ∧
    decode [0b10101010] = .ok (.xor_A_D, []) ∧
    decode [0b10101011] = .ok (.xor_A_E, []) ∧
    decode [0b10101100] = .ok (.xor_A_H, []) ∧
    decode [0b10101101] = .ok (.xor_A_L, []) ∧
    decode [0b10101110] = .ok (.xor_A_mHL, []) ∧
    decode [0b10101111] = .ok (.xor_A_A, []) := by
  refine ⟨rfl, rfl, rfl, rfl, rfl, rfl, rfl, rfl, rfl, rfl, rfl, rfl, rfl, rfl, rfl, rfl⟩

theorem test_decode_Bx :
    decode [0b10110000] = .ok (.or_A_B, []) ∧
    decode [0b10110001] = .ok (.or_A_C, []) ∧
    decode [0b10110010] = .ok (.or_A_D, []) ∧
    decode [0b10110011] = .ok (.or_A_E, []) ∧
    decode [0b10110100] = .ok (.or_A_H, []) ∧
    decode [0b10110101] = .ok (.or_A_L, []) ∧
    decode [0b10110110] = .ok (.or_A_mHL, []) ∧
    decode [0b10110111] = .ok (.or_A_A, []) ∧
    decode [0b10111000] = .ok (.cp_A_B, []) ∧
    decode [0b10111001] = .ok (.cp_A_C, []) ∧
    decode [0b10111010] = .ok (.cp_A_D, []) ∧
    decode [0b10111011] = .ok (.cp_A_E, []) ∧
    decode [0b10111100] = .ok (.cp_A_H, []) ∧
    decode [0b10111101] = .ok (.cp_A_L, []) ∧
    decode [0b10111110] = .ok (.cp_A_mHL, []) ∧
    decode [0b10111111] = .ok (.cp_A_A, []) := by
  refine ⟨rfl, rfl, rfl, rfl, rfl, rfl, rfl, rfl, rfl, rfl, rfl, rfl, rfl, rfl, rfl, rfl⟩

theorem test_decode_Cx :
    decode [0b11000000] = .ok (.ret_NZ, []) ∧
    decode [0b11000001] = .ok (.pop_BC, []) ∧
    decode [0b11000010, 0x34, 0x12] = .ok (.jp_NZ_nn 0x1234, []) ∧
    decode [0b11000011, 0x34, 0x12] = .ok (.jp_nn 0x1234, []) ∧
    decode [0b11000100, 0x34, 0x12] = .ok (.call_NZ_nn 0x1234, []) ∧
    decode [0b11000101] = .ok (.push_BC, []) ∧
    decode [0b11000110, 0x34] = .ok (.add_A_n 0x34, []) ∧
    decode [0b11000111] = .ok (.rst_00, []) ∧
    decode [0b11001000] = .ok (.ret_Z, []) ∧
    decode [0b11001001] = .ok (.ret, []) ∧
    decode [0b11001010, 0x34, 0x12] = .ok (.jp_Z_nn 0x1234, []) ∧
    decode [0b11001100, 0x34, 0x12] = .ok (.call_Z_nn 0x1234, []) ∧
    decode [0b11001101, 0x34, 0x12] = .ok (.call_nn 0x1234, []) ∧
    decode [0b11001110, 0x34] = .ok (.adc_A_n 0x34, []) ∧
    decode [0b11001111] = .ok (.rst_08, []) := by
  refine ⟨rfl, rfl, rfl, rfl, rfl, rfl, rfl, rfl, rfl, rfl, rfl, rfl, rfl, rfl, rfl⟩

theorem test_decode_Dx :
    decode [0b11010000] = .ok (.ret_NC, []) ∧
    decode [0b11010001] = .ok (.pop_DE, []) ∧
    decode [0b11010010, 0x34, 0x12] = .ok (.jp_NC_nn 0x1234, []) ∧
    decode [0b11010011] = .ok (.undefined_D3, []) ∧
    decode [0b11010100, 0x34, 0x12] = .ok (.call_NC_nn 0x1234, []) ∧
    decode [0b11010101] = .ok (.push_DE, []) ∧
    decode [0b11010110, 0x34] = .ok (.sub_A_n 0x34, []) ∧
    decode [0b11010111] = .ok (.rst_10, []) ∧
    decode [0b11011000] = .ok (.ret_C, []) ∧
    decode [0b11011001] = .ok (.reti, []) ∧
    decode [0b11011010, 0x34, 0x12] = .ok (.jp_C_nn 0x1234, []) ∧
    decode [0b11011011] = .ok (.undefined_DB, []) ∧
    decode [0b11011100, 0x34, 0x12] = .ok (.call_C_nn 0x1234, []) ∧
    decode [0b11011101] = .ok (.undefined_DD, []) ∧
    decode [0b11011110, 0x34] = .ok (.sbc_A_n 0x34, []) ∧
    decode [0b11011111] = .ok (.rst_18, []) := by
  refine ⟨rfl, rfl, rfl, rfl, rfl, rfl, rfl, rfl, rfl, rfl, rfl, rfl, rfl, rfl, rfl, rfl⟩

theorem test_decode_Ex :
    decode [0b11100000, 0x34] = .ok (.ldh_mn_A 0x34, []) ∧
    decode [0b11100001] = .ok (.pop_HL, []) ∧
    decode [0b11100010] = .ok (.ld_mC_A, []) ∧
    decode [0b11100011] = .ok (.undefined_E3, []) ∧
    decode [0b11100100] = .ok (.undefined_E4, []) ∧
    decode [0b11100101] = .ok (.push_HL, []) ∧
    decode [0b11100110, 0x34] = .ok (.and_A_n 0x34, []) ∧
    decode [0b11100111] = .ok (.rst_20, []) ∧
    decode [0b11101000, 0x34] = .ok (.add_SP_e 0x34, []) ∧
    decode [0b11101001] = .ok (.jp_HL, []) ∧
    decode [0b11101010, 0x34, 0x12] = .ok (.ld_mnn_A 0x1234, []) ∧
    decode [0b11101011] = .ok (.undefined_EB, []) ∧
    decode [0b11101100] = .ok (.undefined_EC, []) ∧
    decode [0b11101101] = .ok (.undefined_ED, []) ∧
    decode [0b11101110, 0x34] = .ok (.xor_A_n 0x34, []) ∧
    decode [0b11101111] = .ok (.rst_28, []) := by
  refine ⟨rfl, rfl, rfl, rfl, rfl, rfl, rfl, rfl, rfl, rfl, rfl, rfl, rfl, rfl, rfl, rfl⟩

theorem test_decode_Fx :
    decode [0b11110000, 0x34] = .ok (.ldh_A_mn 0x34, []) ∧
    decode [0b11110001] = .ok (.pop_AF, []) ∧
    decode [0b11110010] = .ok (.ld_A_mC, []) ∧
    decode [0b11110011] = .ok (.di, []) ∧
    decode [0b11110100] = .ok (.undefined_F4, []) ∧
    decode [0b11110101] = .ok (.push_AF, []) ∧
    decode [0b11110110, 0x34] = .ok (.or_A_n 0x34, []) ∧
    decode [0b11110111] = .ok (.rst_30, []) ∧
    decode [0b11111000, 0x34] = .ok (.ld_HL_SPe 0x34, []) ∧
    decode [0b11111001] = .ok (.ld_SP_HL, []) ∧
    decode [0b11111010, 0x34, 0x12] = .ok (.ld_A_mnn 0x1234, []) ∧
    decode [0b11111011] = .ok (.ei, []) ∧
    decode [0b11111100] = .ok (.undefined_FC, []) ∧
    decode [0b11111101] = .ok (.undefined_FD, []) ∧
    decode [0b11111110, 0x34] = .ok (.cp_A_n 0x34, []) ∧
    decode [0b11111111] = .ok (.rst_38, []) := by
  refine ⟨rfl, rfl, rfl, rfl, rfl, rfl, rfl, rfl, rfl, rfl, rfl, rfl, rfl, rfl, rfl, rfl⟩

theorem test_decode_CB_0x :
    decode [0b11001011, 0b00000000] = .ok (.rlc_B, []) ∧
    decode [0b11001011, 0b00000001] = .ok (.rlc_C, []) ∧
    decode [0b11001011, 0b00000010] = .ok (.rlc_D, []) ∧
    decode [0b11001011, 0b00000011] = .ok (.rlc_E, []) ∧
    decode [0b11001011, 0b00000100] = .ok (.rlc_H, []) ∧
    decode [0b11001011, 0b00000101] = .ok (.rlc_L, []) ∧
    decode [0b11001011, 0b00000110] = .ok (.rlc_mHL, []) ∧
    decode [0b11001011, 0b00000111] = .ok (.rlc_A, []) ∧
    decode [0b11001011, 0b00001000] = .ok (.rrc_B, []) ∧
    decode [0b11001011, 0b00001001] = .ok (.rrc_C, []) ∧
    decode [0b11001011, 0b00001010] = .ok (.rrc_D, []) ∧
    decode [0b11001011, 0b00001011] = .ok (.rrc_E, []) ∧
    decode [0b11001011, 0b00001100] = .ok (.rrc_H, []) ∧
    decode [0b11001011, 0b00001101] = .ok (.rrc_L, []) ∧
    decode [0b11001011, 0b00001110] = .ok (.rrc_mHL, []) ∧
    decode [0b11001011, 0b00001111] = .ok (.rrc_A, []) := by
  refine ⟨rfl, rfl, rfl, rfl, rfl, rfl, rfl, rfl, rfl, rfl, rfl, rfl, rfl, rfl, rfl, rfl⟩

theorem test_decode_CB_1x :
    decode [0b11001011, 0b00010000] = .ok (.rl_B, []) ∧
    decode [0b11001011, 0b00010001] = .ok (.rl_C, []) ∧
    decode [0b11001011, 0b00010010] = .ok (.rl_D, []) ∧
    decode [0b11001011, 0b00010011] = .ok (.rl_E, []) ∧
    decode [0b11001011, 0b00010100] = .ok (.rl_H, []) ∧
    decode [0b11001011, 0b00010101] = .ok (.rl_L, []) ∧
    decode [0b11001011, 0b00010110] = .ok (.rl_mHL, []) ∧
    decode [0b11001011, 0b00010111] = .ok (.rl_A, []) ∧
    decode [0b11001011, 0b00011000] = .ok (.rr_B, []) ∧
    decode [0b11001011, 0b00011001] = .ok (.rr_C, []) ∧
    decode [0b11001011, 0b00011010] = .ok (.rr_D, []) ∧
    decode [0b11001011, 0b00011011] = .ok (.rr_E, []) ∧
    decode [0b11001011, 0b00011100] = .ok (.rr_H, []) ∧
    decode [0b11001011, 0b00011101] = .ok (.rr_L, []) ∧
    decode [0b11001011, 0b00011110] = .ok (.rr_mHL, []) ∧
    decode [0b11001011, 0b00011111] = .ok (.rr_A, []) := by
  refine ⟨rfl, rfl, rfl, rfl, rfl, rfl, rfl, rfl, rfl, rfl, rfl, rfl, rfl, rfl, rfl, rfl⟩

theorem test_decode_CB_2x :
    decode [0b11001011, 0b00100000] = .ok (.sla_B, []) ∧
    decode [0b11001011, 0b00100001] = .ok (.sla_C, []) ∧
    decode [0b11001011, 0b00100010] = .ok (.sla_D, []) ∧
    decode [0b11001011, 0b00100011] = .ok (.sla_E, []) ∧
    decode [0b11001011, 0b00100100] = .ok (.sla_H, []) ∧
    decode [0b11001011, 0b00100101] = .ok (.sla_L, []) ∧
    decode [0b11001011, 0b00100110] = .ok (.sla_mHL, []) ∧
    decode [0b11001011, 0b00100111] = .ok (.sla_A, []) ∧
    decode [0b11001011, 0b00101000] = .ok (.sra_B, []) ∧
    decode [0b11001011, 0b00101001] = .ok (.sra_C, []) ∧
    decode [0b11001011, 0b00101010] = .ok (.sra_D, []) ∧
    decode [0b11001011, 0b00101011] = .ok (.sra_E, []) ∧
    decode [0b11001011, 0b00101100] = .ok (.sra_H, []) ∧
    decode [0b11001011, 0b00101101] = .ok (.sra_L, []) ∧
    decode [0b11001011, 0b00101110] = .ok (.sra_mHL, []) ∧
    decode [0b11001011, 0b00101111] = .ok (.sra_A, []) := by
  refine ⟨rfl, rfl, rfl, rfl, rfl, rfl, rfl, rfl, rfl, rfl, rfl, rfl, rfl, rfl, rfl, rfl⟩

theorem test_decode_CB_3x :
    decode [0b11001011, 0b00110000] = .ok (.swap_B, []) ∧
    decode [0b11001011, 0b00110001] = .ok (.swap_C, []) ∧
    decode [0b11001011, 0b00110010] = .ok (.swap_D, []) ∧
    decode [0b11001011, 0b00110011] = .ok (.swap_E, []) ∧
    decode [0b11001011, 0b00110100] = .ok (.swap_H, []) ∧
    decode [0b11001011, 0b00110101] = .ok (.swap_L, []) ∧
    decode [0b11001011, 0b00110110] = .ok (.swap_mHL, []) ∧
    decode [0b11001011, 0b00110111] = .ok (.swap_A, []) ∧
    decode [0b11001011, 0b00111000] = .ok (.srl_B, []) ∧
    decode [0b11001011, 0b00111001] = .ok (.srl_C, []) ∧
    decode [0b11001011, 0b00111010] = .ok (.srl_D, []) ∧
    decode [0b11001011, 0b00111011] = .ok (.srl_E, []) ∧
    decode [0b11001011, 0b00111100] = .ok (.srl_H, []) ∧
    decode [0b11001011, 0b00111101] = .ok (.srl_L, []) ∧
    decode [0b11001011, 0b00111110] = .ok (.srl_mHL, []) ∧
    decode [0b11001011, 0b00111111] = .ok (.srl_A, []) := by
  refine ⟨rfl, rfl, rfl, rfl, rfl, rfl, rfl, rfl, rfl, rfl, rfl, rfl, rfl, rfl, rfl, rfl⟩

theorem test_decode_CB_4x :
    decode [0b11001011, 0b01000000] = .ok (.bit_0_B, []) ∧
    decode [0b11001011, 0b01000001] = .ok (.bit_0_C, []) ∧
    decode [0b11001011, 0b01000010] = .ok (.bit_0_D, []) ∧
    decode [0b11001011, 0b01000011] = .ok (.bit_0_E, []) ∧
    decode [0b11001011, 0b01000100] = .ok (.bit_0_H, []) ∧
    decode [0b11001011, 0b01000101] = .ok (.bit_0_L, []) ∧
    decode [0b11001011, 0b01000110] = .ok (.bit_0_mHL, []) ∧
    decode [0b11001011, 0b01000111] = .ok (.bit_0_A, []) ∧
    decode [0b11001011, 0b01001000] = .ok (.bit_1_B, []) ∧
    decode [0b11001011, 0b01001001] = .ok (.bit_1_C, []) ∧
    decode [0b11001011, 0b01001010] = .ok (.bit_1_D, []) ∧
    decode [0b11001011, 0b01001011] = .ok (.bit_1_E, []) ∧
    decode [0b11001011, 0b01001100] = .ok (.bit_1_H, []) ∧
    decode [0b11001011, 0b01001101] = .ok (.bit_1_L, []) ∧
    decode [0b11001011, 0b01001110] = .ok (.bit_1_mHL, []) ∧
    decode [0b11001011, 0b01001111] = .ok (.bit_1_A, []) := by
  refine ⟨rfl, rfl, rfl, rfl, rfl, rfl, rfl, rfl, rfl, rfl, rfl, rfl, rfl, rfl, rfl, rfl⟩

theorem test_decode_CB_5x :
    decode [0b11001011, 0b01010000] = .ok (.bit_2_B, []) ∧
    decode [0b11001011, 0b01010001] = .ok (.bit_2_C, []) ∧
    decode [0b11001011, 0b01010010] = .ok (.bit_2_D, []) ∧
    decode [0b11001011, 0b01010011] = .ok (.bit_2_E, []) ∧
    decode [0b11001011, 0b01010100] = .ok (.bit_2_H, []) ∧
    decode [0b11001011, 0b01010101] = .ok (.bit_2_L, []) ∧
    decode [0b11001011, 0b01010110] = .ok (.bit_2_mHL, []) ∧
    decode [0b11001011, 0b01010111] = .ok (.bit_2_A, []) ∧
    decode [0b11001011, 0b01011000] = .ok (.bit_3_B, []) ∧
    decode [0b11001011, 0b01011001] = .ok (.bit_3_C, []) ∧
    decode [0b11001011, 0b01011010] = .ok (.bit_3_D, []) ∧
    decode [0b11001011, 0b01011011] = .ok (.bit_3_E, []) ∧
    decode [0b11001011, 0b01011100] = .ok (.bit_3_H, []) ∧
    decode [0b11001011, 0b01011101] = .ok (.bit_3_L, []) ∧
    decode [0b11001011, 0b01011110] = .ok (.bit_3_mHL, []) ∧
    decode [0b11001011, 0b01011111] = .ok (.bit_3_A, []) := by
  refine ⟨rfl, rfl, rfl, rfl, rfl, rfl, rfl, rfl, rfl, rfl, rfl, rfl, rfl, rfl, rfl, rfl⟩

theorem test_decode_CB_6x :
    decode [0b11001011, 0b01100000] = .ok (.bit_4_B, []) ∧
    decode [0b11001011, 0b01100001] = .ok (.bit_4_C, []) ∧
    decode [0b11001011, 0b01100010] = .ok (.bit_4_D, []) ∧
    decode [0b11001011, 0b01100011] = .ok (.bit_4_E, []) ∧
    decode [0b11001011, 0b01100100] = .ok (.bit_4_H, []) ∧
    decode [0b11001011, 0b01100101] = .ok (.bit_4_L, []) ∧
    decode [0b11001011, 0b01100110] = .ok (.bit_4_mHL, []) ∧
    decode [0b11001011, 0b01100111] = .ok (.bit_4_A, []) ∧
    decode [0b11001011, 0b01101000] = .ok (.bit_5_B, []) ∧
    decode [0b11001011, 0b01101001] = .ok (.bit_5_C, []) ∧
    decode [0b11001011, 0b01101010] = .ok (.bit_5_D, []) ∧
    decode [0b11001011, 0b01101011] = .ok (.bit_5_E, []) ∧
    decode [0b11001011, 0b01101100] = .ok (.bit_5_H, []) ∧
    decode [0b11001011, 0b01101101] = .ok (.bit_5_L, []) ∧
    decode [0b11001011, 0b01101110] = .ok (.bit_5_mHL, []) ∧
    decode [0b11001011, 0b01101111] = .ok (.bit_5_A, []) := by
  refine ⟨rfl, rfl, rfl, rfl, rfl, rfl, rfl, rfl, rfl, rfl, rfl, rfl, rfl, rfl, rfl, rfl⟩

theorem test_decode_CB_7x :
    decode [0b11001011, 0b01110000] = .ok (.bit_6_B, []) ∧
    decode [0b11001011, 0b01110001] = .ok (.bit_6_C, []) ∧
    decode [0b11001011, 0b01110010] = .ok (.bit_6_D, []) ∧
    decode [0b11001011, 0b01110011] = .ok (.bit_6_E, []) ∧
    decode [0b11001011, 0b01110100] = .ok (.bit_6_H, []) ∧
    decode [0b11001011, 0b01110101] = .ok (.bit_6_L, []) ∧
    decode [0b11001011, 0b01110110] = .ok (.bit_6_mHL, []) ∧
    decode [0b11001011, 0b01110111] = .ok (.bit_6_A, []) ∧
    decode [0b11001011, 0b01111000] = .ok (.bit_7_B, []) ∧
    decode [0b11001011, 0b01111001] = .ok (.bit_7_C, []) ∧
    decode [0b11001011, 0b01111010] = .ok (.bit_7_D, []) ∧
    decode [0b11001011, 0b01111011] = .ok (.bit_7_E, []) ∧
    decode [0b11001011, 0b01111100] = .ok (.bit_7_H, []) ∧
    decode [0b11001011, 0b01111101] = .ok (.bit_7_L, []) ∧
    decode [0b11001011, 0b01111110] = .ok (.bit_7_mHL, []) ∧
    decode [0b11001011, 0b01111111] = .ok (.bit_7_A, []) := by
  refine ⟨rfl, rfl, rfl, rfl, rfl, rfl, rfl, rfl, rfl, rfl, rfl, rfl, rfl, rfl, rfl, rfl⟩

theorem test_decode_CB_8x :
    decode [0b11001011, 0b10000000] = .ok (.res_0_B, []) ∧
    decode [0b11001011, 0b10000001] = .ok (.res_0_C, []) ∧
    decode [0b11001011, 0b10000010] = .ok (.res_0_D, []) ∧
    decode [0b11001011, 0b10000011] = .ok (.res_0_E, []) ∧
    decode [0b11001011, 0b10000100] = .ok (.res_0_H, []) ∧
    decode [0b11001011, 0b10000101] = .ok (.res_0_L, []) ∧
    decode [0b11001011, 0b10000110] = .ok (.res_0_mHL, []) ∧
    decode [0b11001011, 0b10000111] = .ok (.res_0_A, []) ∧
    decode [0b11001011, 0b10001000] = .ok (.res_1_B, []) ∧
    decode [0b11001011, 0b10001001] = .ok (.res_1_C, []) ∧
    decode [0b11001011, 0b10001010] = .ok (.res_1_D, []) ∧
    decode [0b11001011, 0b10001011] = .ok (.res_1_E, []) ∧
    decode [0b11001011, 0b10001100] = .ok (.res_1_H, []) ∧
    decode [0b11001011, 0b10001101] = .ok (.res_1_L, []) ∧
    decode [0b11001011, 0b10001110] = .ok (.res_1_mHL, []) ∧
    decode [0b11001011, 0b10001111] = .ok (.res_1_A, []) := by
  refine ⟨rfl, rfl, rfl, rfl, rfl, rfl, rfl, rfl, rfl, rfl, rfl, rfl, rfl, rfl, rfl, rfl⟩

theorem test_decode_CB_9x :
    decode [0b11001011, 0b10010000] = .ok (.res_2_B, []) ∧
    decode [0b11001011, 0b10010001] = .ok (.res_2_C, []) ∧
    decode [0b11001011, 0b10010010] = .ok (.res_2_D, []) ∧
    decode [0b11001011, 0b10010011] = .ok (.res_2_E, []) ∧
    decode [0b11001011, 0b10010100] = .ok (.res_2_H, []) ∧
    decode [0b11001011, 0b10010101] = .ok (.res_2_L, []) ∧
    decode [0b11001011, 0b10010110] = .ok (.res_2_mHL, []) ∧
    decode [0b11001011, 0b10010111] = .ok (.res_2_A, []) ∧
    decode [0b11001011, 0b10011000] = .ok (.res_3_B, []) ∧
    decode [0b11001011, 0b10011001] = .ok (.res_3_C, []) ∧
    decode [0b11001011, 0b10011010] = .ok (.res_3_D, []) ∧
    decode [0b11001011, 0b10011011] = .ok (.res_3_E, []) ∧
    decode [0b11001011, 0b10011100] = .ok (.res_3_H, []) ∧
    decode [0b11001011, 0b10011101] = .ok (.res_3_L, []) ∧
    decode [0b11001011, 0b10011110] = .ok (.res_3_mHL, []) ∧
    decode [0b11001011, 0b10011111] = .ok (.res_3_A, []) := by
  refine ⟨rfl, rfl, rfl, rfl, rfl, rfl, rfl, rfl, rfl, rfl, rfl, rfl, rfl, rfl, rfl, rfl⟩

theorem test_decode_CB_Ax :
    decode [0b11001011, 0b10100000] = .ok (.res_4_B, []) ∧
    decode [0b11001011, 0b10100001] = .ok (.res_4_C, []) ∧
    decode [0b11001011, 0b10100010] = .ok (.res_4_D, []) ∧
    decode [0b11001011, 0b10100011] = .ok (.res_4_E, []) ∧
    decode [0b11001011, 0b10100100] = .ok (.res_4_H, []) ∧
    decode [0b11001011, 0b10100101] = .ok (.res_4_L, []) ∧
    decode [0b11001011, 0b10100110] = .ok (.res_4_mHL, []) ∧
    decode [0b11001011, 0b10100111] = .ok (.res_4_A, []) ∧
    decode [0b11001011, 0b10101000] = .ok (.res_5_B, []) ∧
    decode [0b11001011, 0b10101001] = .ok (.res_5_C, []) ∧
    decode [0b11001011, 0b10101010] = .ok (.res_5_D, []) ∧
    decode [0b11001011, 0b10101011] = .ok (.res_5_E, []) ∧
    decode [0b11001011, 0b10101100] = .ok (.res_5_H, []) ∧
    decode [0b11001011, 0b10101101] = .ok (.res_5_L, []) ∧
    decode [0b11001011, 0b10101110] = .ok (.res_5_mHL, []) ∧
    decode [0b11001011, 0b10101111] = .ok (.res_5_A, []) := by
  refine ⟨rfl, rfl, rfl, rfl, rfl, rfl, rfl, rfl, rfl, rfl, rfl, rfl, rfl, rfl, rfl, rfl⟩

theorem test_decode_CB_Bx :
    decode [0b11001011, 0b10110000] = .ok (.res_6_B, []) ∧
    decode [0b11001011, 0b10110001] = .ok (.res_6_C, []) ∧
    decode [0b11001011, 0b10110010] = .ok (.res_6_D, []) ∧
    decode [0b11001011, 0b10110011] = .ok (.res_6_E, []) ∧
    decode [0b11001011, 0b10110100] = .ok (.res_6_H, []) ∧
    decode [0b11001011, 0b10110101] = .ok (.res_6_L, []) ∧
    decode [0b11001011, 0b10110110] = .ok (.res_6_mHL, []) ∧
    decode [0b11001011, 0b10110111] = .ok (.res_6_A, []) ∧
    decode [0b11001011, 0b10111000] = .ok (.res_7_B, []) ∧
    decode [0b11001011, 0b10111001] = .ok (.res_7_C, []) ∧
    decode [0b11001011, 0b10111010] = .ok (.res_7_D, []) ∧
    decode [0b11001011, 0b10111011] = .ok (.res_7_E, []) ∧
    decode [0b11001011, 0b10111100] = .ok (.res_7_H, []) ∧
    decode [0b11001011, 0b10111101] = .ok (.res_7_L, []) ∧
    decode [0b11001011, 0b10111110] = .ok (.res_7_mHL, []) ∧
    decode [0b11001011, 0b10111111] = .ok (.res_7_A, []) := by
  refine ⟨rfl, rfl, rfl, rfl, rfl, rfl, rfl, rfl, rfl, rfl, rfl, rfl, rfl, rfl, rfl, rfl⟩

theorem test_decode_CB_Cx :
    decode [0b11001011, 0b11000000] = .ok (.set_0_B, []) ∧
    decode [0b11001011, 0b11000001] = .ok (.set_0_C, []) ∧
    decode [0b11001011, 0b11000010] = .ok (.set_0_D, []) ∧
    decode [0b11001011, 0b11000011] = .ok (.set_0_E, []) ∧
    decode [0b11001011, 0b11000100] = .ok (.set_0_H, []) ∧
    decode [0b11001011, 0b11000101] = .ok (.set_0_L, []) ∧
    decode [0b11001011, 0b11000110] = .ok (.set_0_mHL, []) ∧
    decode [0b11001011, 0b11000111] = .ok (.set_0_A, []) ∧
    decode [0b11001011, 0b11001000] = .ok (.set_1_B, []) ∧
    decode [0b11001011, 0b11001001] = .ok (.set_1_C, []) ∧
    decode [0b11001011, 0b11001010] = .ok (.set_1_D, []) ∧
    decode [0b11001011, 0b11001011] = .ok (.set_1_E, []) ∧
    decode [0b11001011, 0b11001100] = .ok (.set_1_H, []) ∧
    decode [0b11001011, 0b11001101] = .ok (.set_1_L, []) ∧
    decode [0b11001011, 0b11001110] = .ok (.set_1_mHL, []) ∧
    decode [0b11001011, 0b11001111] = .ok (.set_1_A, []) := by
  refine ⟨rfl, rfl, rfl, rfl, rfl, rfl, rfl, rfl, rfl, rfl, rfl, rfl, rfl, rfl, rfl, rfl⟩

theorem test_decode_CB_Dx :
    decode [0b11001011, 0b11010000] = .ok (.set_2_B, []) ∧
    decode [0b11001011, 0b11010001] = .ok (.set_2_C, []) ∧
    decode [0b11001011, 0b11010010] = .ok (.set_2_D, []) ∧
    decode [0b11001011, 0b11010011] = .ok (.set_2_E, []) ∧
    decode [0b11001011, 0b11010100] = .ok (.set_2_H, []) ∧
    decode [0b11001011, 0b11010101] = .ok (.set_2_L, []) ∧
    decode [0b11001011, 0b11010110] = .ok (.set_2_mHL, []) ∧
    decode [0b11001011, 0b11010111] = .ok (.set_2_A, []) ∧
    decode [0b11001011, 0b11011000] = .ok (.set_3_B, []) ∧
    decode [0b11001011, 0b11011001] = .ok (.set_3_C, []) ∧
    decode [0b11001011, 0b11011010] = .ok (.set_3_D, []) ∧
    decode [0b11001011, 0b11011011] = .ok (.set_3_E, []) ∧
    decode [0b11001011, 0b11011100] = .ok (.set_3_H, []) ∧
    decode [0b11001011, 0b11011101] = .ok (.set_3_L, []) ∧
    decode [0b11001011, 0b11011110] = .ok (.set_3_mHL, []) ∧
    decode [0b11001011, 0b11011111] = .ok (.set_3_A, []) := by
  refine ⟨rfl, rfl, rfl, rfl, rfl, rfl, rfl, rfl, rfl, rfl, rfl, rfl, rfl, rfl, rfl, rfl⟩

theorem test_decode_CB_Ex :
    decode [0b11001011, 0b11100000] = .ok (.set_4_B, []) ∧
    decode [0b11001011, 0b11100001] = .ok (.set_4_C, []) ∧
    decode [0b11001011, 0b11100010] = .ok (.set_4_D, []) ∧
    decode [0b11001011, 0b11100011] = .ok (.set_4_E, []) ∧
    decode [0b11001011, 0b11100100] = .ok (.set_4_H, []) ∧
    decode [0b11001011, 0b11100101] = .ok (.set_4_L, []) ∧
    decode [0b11001011, 0b11100110] = .ok (.set_4_mHL, []) ∧
    decode [0b11001011, 0b11100111] = .ok (.set_4_A, []) ∧
    decode [0b11001011, 0b11101000] = .ok (.set_5_B, []) ∧
    decode [0b11001011, 0b11101001] = .ok (.set_5_C, []) ∧
    decode [0b11001011, 0b11101010] = .ok (.set_5_D, []) ∧
    decode [0b11001011, 0b11101011] = .ok (.set_5_E, []) ∧
    decode [0b11001011, 0b11101100] = .ok (.set_5_H, []) ∧
    decode [0b11001011, 0b11101101] = .ok (.set_5_L, []) ∧
    decode [0b11001011, 0b11101110] = .ok (.set_5_mHL, []) ∧
    decode [0b11001011, 0b11101111] = .ok (.set_5_A, []) := by
  refine ⟨rfl, rfl, rfl, rfl, rfl, rfl, rfl, rfl, rfl, rfl, rfl, rfl, rfl, rfl, rfl, rfl⟩

theorem test_decode_CB_Fx :
    decode [0b11001011, 0b11110000] = .ok (.set_6_B, []) ∧
    decode [0b11001011, 0b11110001] = .ok (.set_6_C, []) ∧
    decode [0b11001011, 0b11110010] = .ok (.set_6_D, []) ∧
    decode [0b11001011, 0b11110011] = .ok (.set_6_E, []) ∧
    decode [0b11001011, 0b11110100] = .ok (.set_6_H, []) ∧
    decode [0b11001011, 0b11110101] = .ok (.set_6_L, []) ∧
    decode [0b11001011, 0b11110110] = .ok (.set_6_mHL, []) ∧
    decode [0b11001011, 0b11110111] = .ok (.set_6_A, []) ∧
    decode [0b11001011, 0b11111000] = .ok (.set_7_B, []) ∧
    decode [0b11001011, 0b11111001] = .ok (.set_7_C, []) ∧
    decode [0b11001011, 0b11111010] = .ok (.set_7_D, []) ∧
    decode [0b11001011, 0b11111011] = .ok (.set_7_E, []) ∧
    decode [0b11001011, 0b11111100] = .ok (.set_7_H, []) ∧
    decode [0b11001011, 0b11111101] = .ok (.set_7_L, []) ∧
    decode [0b11001011, 0b11111110] = .ok (.set_7_mHL, []) ∧
    decode [0b11001011, 0b11111111] = .ok (.set_7_A, []) := by
  refine ⟨rfl, rfl, rfl, rfl, rfl, rfl, rfl, rfl, rfl, rfl, rfl, rfl, rfl, rfl, rfl, rfl⟩

theorem test_tableWord_one_byte : decodeTableWord 8 0x78 = some .ld_A_B ∧ decodeTableWord 8 0x3E = some (.ld_A_n 0) := ⟨rfl, rfl⟩

theorem test_tableWord_operands :
    decodeTableWord 16 0x423E = some (.ld_A_n 0x42) ∧ decodeTableWord 24 0x0150C3 = some (.jp_nn 0x0150) := ⟨rfl, rfl⟩

theorem test_tableWord_extended : decodeTableWord 16 0xCB37 = some .swap_A ∧ decodeTableWord 16 0xCBBE = some .res_7_mHL :=
  ⟨rfl, rfl⟩

theorem test_withFetchWord_runs :
    after (State.reset.withFetchWord 8 0x3C) (fun t => (t.a, t.pc)) = some (0x02, 0x0101) ∧
    after (State.reset.withFetchWord 16 0xCB37) (fun t => (t.a, t.pc)) = some (0x10, 0x0102) ∧
    after (State.reset.withFetchWord 24 0x00C3) (fun t => t.pc) = some 0x0000 := by decide

/-! ## One-step vectors (spec/95_test_vectors.md section 2; the ids are the spec's) -/

theorem test_A1_ld_A_B :
    after (boot [0x78] { State.reset with b := 0x12 })
      (fun t => (t.a, t.pc, t.elapsed)) =
      some (0x12, 0x0101, 4) := by decide

theorem test_A3_ld_A_n :
    after (boot [0x3E, 0x42] State.reset)
      (fun t => (t.a, t.pc, t.elapsed)) =
      some (0x42, 0x0102, 8) := by decide

theorem test_A4_ld_H_mHL :
    after (boot [0x66] (({ State.reset with h := 0xC0, l := 0x00 }).setRaw 0xC000 0x9A))
      (fun t => (t.h, t.pc, t.elapsed)) =
      some (0x9A, 0x0101, 8) := by decide

theorem test_A6_ld_mHL_A :
    after (boot [0x77] { State.reset with h := 0xC0, l := 0x10, a := 0x99 })
      (fun t => (t.pc, t.raw 0xC010, t.elapsed)) =
      some (0x0101, 0x99, 8) := by decide

theorem test_A8_ld_mHL_A :
    after (boot [0x77] { State.reset with h := 0x40, l := 0x00, a := 0x99 })
      (fun t => (t.raw 0x4000, t.pc, t.elapsed)) =
      some (0x00, 0x0101, 8) := by decide

theorem test_A9_ld_mHL_n :
    after (boot [0x36, 0xE4] { State.reset with h := 0xFF, l := 0x47 })
      (fun t => (t.pc, t.raw 0xFF47, t.elapsed)) =
      some (0x0102, 0xE4, 12) := by decide

theorem test_A10_ld_A_mBC :
    after (boot [0x0A, 0xC3] { State.reset with b := 0x01, c := 0x01 })
      (fun t => (t.a, t.pc, t.elapsed)) =
      some (0xC3, 0x0101, 8) := by decide

theorem test_A11_ld_A_mDE :
    after (boot [0x1A] { State.reset with d := 0xFF, e := 0x44 })
      (fun t => (t.a, t.pc, t.elapsed)) =
      some (0x00, 0x0101, 8) := by decide

theorem test_A12_ld_mBC_A :
    after (boot [0x02] { State.reset with b := 0xC0, c := 0x00, a := 0x07 })
      (fun t => (t.pc, t.raw 0xC000, t.elapsed)) =
      some (0x0101, 0x07, 8) := by decide

theorem test_A14_ld_A_mnn :
    after (boot [0xFA, 0x34, 0xC1] ((State.reset).setRaw 0xC134 0x5C))
      (fun t => (t.a, t.pc, t.elapsed)) =
      some (0x5C, 0x0103, 16) := by decide

theorem test_A15_ld_mnn_A :
    after (boot [0xEA, 0x00, 0xC0] { State.reset with a := 0x11 })
      (fun t => (t.pc, t.raw 0xC000, t.elapsed)) =
      some (0x0103, 0x11, 16) := by decide

theorem test_A16_ldh_A_mn :
    after (boot [0xF0, 0x44] State.reset)
      (fun t => (t.a, t.pc, t.elapsed)) =
      some (0x00, 0x0102, 12) := by decide

theorem test_A18_ldh_mn_A :
    after (boot [0xE0, 0x40] { State.reset with a := 0x11 })
      (fun t => (t.pc, t.raw 0xFF40, t.raw 0xFF41, t.elapsed)) =
      some (0x0102, 0x11, 0x04, 12) := by decide

theorem test_A22_ldh_mn_A :
    after (boot [0xE0, 0x00] { State.reset with a := 0x00 })
      (fun t => (t.pc, t.raw 0xFF00, t.elapsed)) =
      some (0x0102, 0xCF, 12) := by decide

theorem test_A23_ld_A_mC :
    after (boot [0xF2] { State.reset with c := 0x47 })
      (fun t => (t.a, t.pc, t.elapsed)) =
      some (0xFC, 0x0101, 8) := by decide

theorem test_A24_ld_mC_A :
    after (boot [0xE2] { State.reset with c := 0x47, a := 0x1B })
      (fun t => (t.pc, t.raw 0xFF47, t.elapsed)) =
      some (0x0101, 0x1B, 8) := by decide

theorem test_A25_ld_mHLI_A :
    after (boot [0x22] { State.reset with h := 0x80, l := 0x00, a := 0xFF })
      (fun t => (t.l, t.pc, t.raw 0x8000, t.elapsed)) =
      some (0x01, 0x0101, 0xFF, 8) := by decide

theorem test_A26_ld_mHLI_A :
    after (boot [0x22] { State.reset with h := 0xFF, l := 0xFF, a := 0x05 })
      (fun t => (t.h, t.l, t.pc, t.raw 0xFFFF, t.elapsed)) =
      some (0x00, 0x00, 0x0101, 0x05, 8) := by decide

theorem test_A27_ld_A_mHLI :
    after (boot [0x2A] (({ State.reset with h := 0xC0, l := 0x00 }).setRaw 0xC000 0x3C))
      (fun t => (t.a, t.l, t.pc, t.elapsed)) =
      some (0x3C, 0x01, 0x0101, 8) := by decide

theorem test_A28_ld_mHLD_A :
    after (boot [0x32] { State.reset with h := 0x00, l := 0x00, a := 0x05 })
      (fun t => (t.h, t.l, t.pc, t.elapsed)) =
      some (0xFF, 0xFF, 0x0101, 8) := by decide

theorem test_A30_ld_A_mHLD :
    after (boot [0x3A] (({ State.reset with h := 0xC0, l := 0x01 }).setRaw 0xC001 0x21))
      (fun t => (t.a, t.l, t.pc, t.elapsed)) =
      some (0x21, 0x00, 0x0101, 8) := by decide

theorem test_B1_ld_HL_nn :
    after (boot [0x21, 0x00, 0x80] State.reset)
      (fun t => (t.h, t.l, t.pc, t.elapsed)) =
      some (0x80, 0x00, 0x0103, 12) := by decide

theorem test_B2_ld_SP_nn :
    after (boot [0x31, 0x00, 0xC1] State.reset)
      (fun t => (t.sp, t.pc, t.elapsed)) =
      some (0xC100, 0x0103, 12) := by decide

theorem test_B3_ld_mnn_SP :
    after (boot [0x08, 0x00, 0xC1] { State.reset with sp := 0xFFF8 })
      (fun t => (t.pc, t.raw 0xC100, t.raw 0xC101, t.elapsed)) =
      some (0x0103, 0xF8, 0xFF, 20) := by decide

theorem test_B4_ld_mnn_SP :
    after (boot [0x08, 0xFF, 0x7F] { State.reset with sp := 0xABCD })
      (fun t => (t.raw 0x7FFF, t.pc, t.raw 0x8000, t.elapsed)) =
      some (0x00, 0x0103, 0xAB, 20) := by decide

theorem test_B5_ld_SP_HL :
    after (boot [0xF9] { State.reset with h := 0xD0, l := 0x00 })
      (fun t => (t.sp, t.pc, t.elapsed)) =
      some (0xD000, 0x0101, 8) := by decide

theorem test_B6_ld_HL_SPe :
    after (boot [0xF8, 0x08] { State.reset with sp := 0xFFF8 })
      (fun t => (t.f, t.h, t.l, t.pc, t.elapsed)) =
      some (0x30, 0x00, 0x00, 0x0102, 12) := by decide

theorem test_B7_ld_HL_SPe :
    after (boot [0xF8, 0xFF] { State.reset with sp := 0x0001 })
      (fun t => (t.f, t.h, t.l, t.pc, t.elapsed)) =
      some (0x30, 0x00, 0x00, 0x0102, 12) := by decide

theorem test_B10_push_BC :
    after (boot [0xC5] { State.reset with b := 0x12, c := 0x34 })
      (fun t => (t.sp, t.pc, t.raw 0xFFFC, t.raw 0xFFFD, t.elapsed)) =
      some (0xFFFC, 0x0101, 0x34, 0x12, 16) := by decide

theorem test_B11_push_AF :
    after (boot [0xF5] { State.reset with a := 0x12, f := 0xF0 })
      (fun t => (t.sp, t.pc, t.raw 0xFFFC, t.raw 0xFFFD, t.elapsed)) =
      some (0xFFFC, 0x0101, 0xF0, 0x12, 16) := by decide

theorem test_B12_push_DE :
    after (boot [0xD5] { State.reset with sp := 0x0001, d := 0x1F, e := 0x77 })
      (fun t => (t.sp, t.pc, t.raw 0xFFFF, t.elapsed)) =
      some (0xFFFF, 0x0101, 0x77, 16) := by decide

theorem test_B13_pop_BC :
    after (boot [0xC1] ((({ State.reset with sp := 0xFFFC }).setRaw 0xFFFC 0x5F).setRaw 0xFFFD 0x3C))
      (fun t => (t.b, t.c, t.sp, t.pc, t.elapsed)) =
      some (0x3C, 0x5F, 0xFFFE, 0x0101, 12) := by decide

theorem test_B14_pop_AF :
    after (boot [0xF1] ((({ State.reset with sp := 0xC000 }).setRaw 0xC000 0xFF).setRaw 0xC001 0x12))
      (fun t => (t.a, t.f, t.sp, t.pc, t.elapsed)) =
      some (0x12, 0xF0, 0xC002, 0x0101, 12) := by decide

theorem test_B15_pop_HL :
    after (boot [0xE1] (({ State.reset with sp := 0xFFFF }).setRaw 0xFFFF 0x1F))
      (fun t => (t.h, t.l, t.sp, t.pc, t.elapsed)) =
      some (0x00, 0x1F, 0x0001, 0x0101, 12) := by decide

theorem test_C1_add_A_B :
    after (boot [0x80] { State.reset with a := 0x3A, b := 0xC6 })
      (fun t => (t.a, t.pc, t.f, t.elapsed)) =
      some (0x00, 0x0101, 0xB0, 4) := by decide

theorem test_C3_add_A_B :
    after (boot [0x80] { State.reset with a := 0x0F, b := 0x01 })
      (fun t => (t.a, t.f, t.pc, t.elapsed)) =
      some (0x10, 0x20, 0x0101, 4) := by decide

theorem test_C5_add_A_A :
    after (boot [0x87] { State.reset with a := 0x08 })
      (fun t => (t.a, t.f, t.pc, t.elapsed)) =
      some (0x10, 0x20, 0x0101, 4) := by decide

theorem test_C6_add_A_mHL :
    after (boot [0x86] (({ State.reset with a := 0x3C, h := 0xC0, l := 0x00 }).setRaw 0xC000 0x12))
      (fun t => (t.a, t.f, t.pc, t.elapsed)) =
      some (0x4E, 0x00, 0x0101, 8) := by decide

theorem test_C7_add_A_n :
    after (boot [0xC6, 0xFF] { State.reset with a := 0x3C })
      (fun t => (t.a, t.f, t.pc, t.elapsed)) =
      some (0x3B, 0x30, 0x0102, 8) := by decide

theorem test_C8_adc_A_E :
    after (boot [0x8B] { State.reset with a := 0xE1, e := 0x0F, f := 0x10 })
      (fun t => (t.a, t.f, t.pc, t.elapsed)) =
      some (0xF1, 0x20, 0x0101, 4) := by decide

theorem test_C9_adc_A_B :
    after (boot [0x88] { State.reset with a := 0xFF, b := 0x00, f := 0x10 })
      (fun t => (t.a, t.f, t.pc, t.elapsed)) =
      some (0x00, 0xB0, 0x0101, 4) := by decide

theorem test_C11_adc_A_n :
    after (boot [0xCE, 0xFF] { State.reset with a := 0x00, f := 0x10 })
      (fun t => (t.f, t.pc, t.elapsed)) =
      some (0xB0, 0x0102, 8) := by decide

theorem test_C12_sub_A_E :
    after (boot [0x93] { State.reset with a := 0x3E, e := 0x3E })
      (fun t => (t.a, t.f, t.pc, t.elapsed)) =
      some (0x00, 0xC0, 0x0101, 4) := by decide

theorem test_C13_sub_A_B :
    after (boot [0x90] { State.reset with a := 0x00, b := 0x01 })
      (fun t => (t.a, t.f, t.pc, t.elapsed)) =
      some (0xFF, 0x70, 0x0101, 4) := by decide

theorem test_C15_sub_A_n :
    after (boot [0xD6, 0x0F] { State.reset with a := 0x3E })
      (fun t => (t.a, t.f, t.pc, t.elapsed)) =
      some (0x2F, 0x60, 0x0102, 8) := by decide

theorem test_C16_sbc_A_H :
    after (boot [0x9C] { State.reset with a := 0x3B, h := 0x2A, f := 0x10 })
      (fun t => (t.a, t.f, t.pc, t.elapsed)) =
      some (0x10, 0x40, 0x0101, 4) := by decide

theorem test_C17_sbc_A_B :
    after (boot [0x98] { State.reset with a := 0x00, b := 0xFF, f := 0x10 })
      (fun t => (t.f, t.pc, t.elapsed)) =
      some (0xF0, 0x0101, 4) := by decide

theorem test_C20_and_A_n :
    after (boot [0xE6, 0x0F] { State.reset with a := 0x5A })
      (fun t => (t.a, t.f, t.pc, t.elapsed)) =
      some (0x0A, 0x20, 0x0102, 8) := by decide

theorem test_C21_and_A_B :
    after (boot [0xA0] { State.reset with a := 0xF0, b := 0x0F })
      (fun t => (t.a, t.f, t.pc, t.elapsed)) =
      some (0x00, 0xA0, 0x0101, 4) := by decide

theorem test_C22_xor_A_A :
    after (boot [0xAF] { State.reset with a := 0x5A })
      (fun t => (t.a, t.f, t.pc, t.elapsed)) =
      some (0x00, 0x80, 0x0101, 4) := by decide

theorem test_C23_xor_A_n :
    after (boot [0xEE, 0xFF] { State.reset with a := 0x0F })
      (fun t => (t.a, t.f, t.pc, t.elapsed)) =
      some (0xF0, 0x00, 0x0102, 8) := by decide

theorem test_C24_or_A_B :
    after (boot [0xB0] { State.reset with a := 0x00, b := 0x00 })
      (fun t => (t.f, t.pc, t.elapsed)) =
      some (0x80, 0x0101, 4) := by decide

theorem test_C25_or_A_mHL :
    after (boot [0xB6] (({ State.reset with a := 0x5A, h := 0xC0, l := 0x00 }).setRaw 0xC000 0x0F))
      (fun t => (t.a, t.f, t.pc, t.elapsed)) =
      some (0x5F, 0x00, 0x0101, 8) := by decide

theorem test_C26_cp_A_n :
    after (boot [0xFE, 0x40] { State.reset with a := 0x3C })
      (fun t => (t.f, t.pc, t.elapsed)) =
      some (0x50, 0x0102, 8) := by decide

theorem test_C27_cp_A_n :
    after (boot [0xFE, 0x3C] { State.reset with a := 0x3C })
      (fun t => (t.f, t.pc, t.elapsed)) =
      some (0xC0, 0x0102, 8) := by decide

theorem test_C29_inc_B :
    after (boot [0x04] { State.reset with b := 0x0F, f := 0x10 })
      (fun t => (t.f, t.b, t.pc, t.elapsed)) =
      some (0x30, 0x10, 0x0101, 4) := by decide

theorem test_C31_inc_mHL :
    after (boot [0x34] (({ State.reset with h := 0xC0, l := 0x00, f := 0x00 }).setRaw 0xC000 0xFF))
      (fun t => (t.f, t.pc, t.raw 0xC000, t.elapsed)) =
      some (0xA0, 0x0101, 0x00, 12) := by decide

theorem test_C33_dec_B :
    after (boot [0x05] { State.reset with b := 0x10, f := 0x00 })
      (fun t => (t.f, t.b, t.pc, t.elapsed)) =
      some (0x60, 0x0F, 0x0101, 4) := by decide

theorem test_C36_dec_mHL :
    after (boot [0x35] (({ State.reset with h := 0xC0, l := 0x00, f := 0x00 }).setRaw 0xC000 0x00))
      (fun t => (t.f, t.pc, t.raw 0xC000, t.elapsed)) =
      some (0x60, 0x0101, 0xFF, 12) := by decide

theorem test_C38_daa :
    after (boot [0x27] { State.reset with a := 0x9A, f := 0x00 })
      (fun t => (t.a, t.f, t.pc, t.elapsed)) =
      some (0x00, 0x90, 0x0101, 4) := by decide

theorem test_C39_daa :
    after (boot [0x27] { State.reset with a := 0x00, f := 0x70 })
      (fun t => (t.a, t.f, t.pc, t.elapsed)) =
      some (0x9A, 0x50, 0x0101, 4) := by decide

theorem test_C44_cpl :
    after (boot [0x2F] { State.reset with a := 0x35, f := 0x80 })
      (fun t => (t.a, t.f, t.pc, t.elapsed)) =
      some (0xCA, 0xE0, 0x0101, 4) := by decide

theorem test_C45_scf :
    after (boot [0x37] { State.reset with f := 0xE0 })
      (fun t => (t.f, t.pc, t.elapsed)) =
      some (0x90, 0x0101, 4) := by decide

theorem test_C46_ccf :
    after (boot [0x3F] { State.reset with f := 0xF0 })
      (fun t => (t.f, t.pc, t.elapsed)) =
      some (0x80, 0x0101, 4) := by decide

theorem test_D1_add_HL_BC :
    after (boot [0x09] { State.reset with h := 0x8A, l := 0x23, b := 0x06, c := 0x05, f := 0x80 })
      (fun t => (t.f, t.h, t.l, t.pc, t.elapsed)) =
      some (0xA0, 0x90, 0x28, 0x0101, 8) := by decide

theorem test_D2_add_HL_HL :
    after (boot [0x29] { State.reset with h := 0x8A, l := 0x23, f := 0x00 })
      (fun t => (t.f, t.h, t.l, t.pc, t.elapsed)) =
      some (0x30, 0x14, 0x46, 0x0101, 8) := by decide

theorem test_D4_add_HL_SP :
    after (boot [0x39] { State.reset with h := 0x00, l := 0x01, sp := 0x0FFF, f := 0xF0 })
      (fun t => (t.f, t.h, t.l, t.pc, t.elapsed)) =
      some (0xA0, 0x10, 0x00, 0x0101, 8) := by decide

theorem test_D5_inc_DE :
    after (boot [0x13] { State.reset with d := 0x00, e := 0xFF })
      (fun t => (t.d, t.e, t.pc, t.elapsed)) =
      some (0x01, 0x00, 0x0101, 8) := by decide

theorem test_D6_inc_SP :
    after (boot [0x33] { State.reset with sp := 0xFFFF })
      (fun t => (t.sp, t.pc, t.f, t.elapsed)) =
      some (0x0000, 0x0101, 0xB0, 8) := by decide

theorem test_D7_dec_BC :
    after (boot [0x0B] { State.reset with b := 0x01, c := 0x00 })
      (fun t => (t.b, t.c, t.pc, t.elapsed)) =
      some (0x00, 0xFF, 0x0101, 8) := by decide

theorem test_D9_add_SP_e :
    after (boot [0xE8, 0x02] { State.reset with sp := 0xFFF8 })
      (fun t => (t.f, t.sp, t.pc, t.elapsed)) =
      some (0x00, 0xFFFA, 0x0102, 16) := by decide

theorem test_D11_add_SP_e :
    after (boot [0xE8, 0x01] { State.reset with sp := 0xFFFF })
      (fun t => (t.f, t.sp, t.pc, t.elapsed)) =
      some (0x30, 0x0000, 0x0102, 16) := by decide

theorem test_E1_rlca :
    after (boot [0x07] { State.reset with a := 0x85, f := 0x00 })
      (fun t => (t.a, t.f, t.pc, t.elapsed)) =
      some (0x0B, 0x10, 0x0101, 4) := by decide

theorem test_E2_rlca :
    after (boot [0x07] { State.reset with a := 0x00, f := 0xF0 })
      (fun t => (t.f, t.pc, t.elapsed)) =
      some (0x00, 0x0101, 4) := by decide

theorem test_E3_rrca :
    after (boot [0x0F] { State.reset with a := 0x3B, f := 0x00 })
      (fun t => (t.a, t.f, t.pc, t.elapsed)) =
      some (0x9D, 0x10, 0x0101, 4) := by decide

theorem test_E4_rla :
    after (boot [0x17] { State.reset with a := 0x95, f := 0x10 })
      (fun t => (t.a, t.pc, t.f, t.elapsed)) =
      some (0x2B, 0x0101, 0x10, 4) := by decide

theorem test_E6_rra :
    after (boot [0x1F] { State.reset with a := 0x81, f := 0x00 })
      (fun t => (t.a, t.f, t.pc, t.elapsed)) =
      some (0x40, 0x10, 0x0101, 4) := by decide

theorem test_E7_rlc_B :
    after (boot [0xCB, 0x00] { State.reset with b := 0x85, f := 0x00 })
      (fun t => (t.f, t.b, t.pc, t.elapsed)) =
      some (0x10, 0x0B, 0x0102, 8) := by decide

theorem test_E9_rlc_mHL :
    after (boot [0xCB, 0x06] (({ State.reset with h := 0xC0, l := 0x00, f := 0x00 }).setRaw 0xC000 0x80))
      (fun t => (t.f, t.pc, t.raw 0xC000, t.elapsed)) =
      some (0x10, 0x0102, 0x01, 16) := by decide

theorem test_E11_rl_L :
    after (boot [0xCB, 0x15] { State.reset with l := 0x80, f := 0x00 })
      (fun t => (t.f, t.l, t.pc, t.elapsed)) =
      some (0x90, 0x00, 0x0102, 8) := by decide

theorem test_E13_rr_A :
    after (boot [0xCB, 0x1F] { State.reset with a := 0x01, f := 0x00 })
      (fun t => (t.a, t.f, t.pc, t.elapsed)) =
      some (0x00, 0x90, 0x0102, 8) := by decide

theorem test_E15_sla_D :
    after (boot [0xCB, 0x22] { State.reset with d := 0x80, f := 0x00 })
      (fun t => (t.f, t.d, t.pc, t.elapsed)) =
      some (0x90, 0x00, 0x0102, 8) := by decide

theorem test_E17_sra_A :
    after (boot [0xCB, 0x2F] { State.reset with a := 0x8A, f := 0x00 })
      (fun t => (t.a, t.pc, t.f, t.elapsed)) =
      some (0xC5, 0x0102, 0x00, 8) := by decide

theorem test_E20_swap_A :
    after (boot [0xCB, 0x37] { State.reset with a := 0xF1, f := 0xF0 })
      (fun t => (t.a, t.f, t.pc, t.elapsed)) =
      some (0x1F, 0x00, 0x0102, 8) := by decide

theorem test_E22_srl_A :
    after (boot [0xCB, 0x3F] { State.reset with a := 0x01, f := 0x00 })
      (fun t => (t.a, t.f, t.pc, t.elapsed)) =
      some (0x00, 0x90, 0x0102, 8) := by decide

theorem test_E24_bit_7_A :
    after (boot [0xCB, 0x7F] { State.reset with a := 0x80, f := 0x10 })
      (fun t => (t.f, t.pc, t.elapsed)) =
      some (0x30, 0x0102, 8) := by decide

theorem test_E26_bit_4_mHL :
    after (boot [0xCB, 0x66] { State.reset with h := 0xFF, l := 0x44, f := 0x00 })
      (fun t => (t.f, t.pc, t.elapsed)) =
      some (0xA0, 0x0102, 12) := by decide

theorem test_E28_res_7_mHL :
    after (boot [0xCB, 0xBE] { State.reset with h := 0xFF, l := 0x40 })
      (fun t => (t.pc, t.raw 0xFF40, t.raw 0xFF41, t.elapsed)) =
      some (0x0102, 0x11, 0x04, 16) := by decide

theorem test_E29_res_0_A :
    after (boot [0xCB, 0x87] { State.reset with a := 0xFF })
      (fun t => (t.a, t.pc, t.elapsed)) =
      some (0xFE, 0x0102, 8) := by decide

theorem test_E30_set_3_B :
    after (boot [0xCB, 0xD8] { State.reset with b := 0x00 })
      (fun t => (t.b, t.pc, t.elapsed)) =
      some (0x08, 0x0102, 8) := by decide

theorem test_E31_set_7_mHL :
    after (boot [0xCB, 0xFE] (({ State.reset with h := 0xC0, l := 0x00 }).setRaw 0xC000 0x01))
      (fun t => (t.pc, t.raw 0xC000, t.elapsed)) =
      some (0x0102, 0x81, 16) := by decide

theorem test_F1_jp_nn :
    after (boot [0xC3, 0x50, 0x01] State.reset)
      (fun t => (t.pc, t.elapsed)) =
      some (0x0150, 16) := by decide

theorem test_F2_jp_NZ_nn :
    after (boot [0xC2, 0x00, 0x20] { State.reset with f := 0x80 })
      (fun t => (t.pc, t.elapsed)) =
      some (0x0103, 12) := by decide

theorem test_F5_jp_HL :
    after (boot [0xE9] { State.reset with h := 0xC0, l := 0x00 })
      (fun t => (t.pc, t.elapsed)) =
      some (0xC000, 4) := by decide

theorem test_F6_jr_e :
    after (boot [0x18, 0xFE] State.reset)
      (fun t => (t.pc, t.elapsed)) =
      some (0x0100, 12) := by decide

theorem test_F10_jr_NZ_e :
    after (boot [0x20, 0x05] { State.reset with f := 0x00 })
      (fun t => (t.pc, t.elapsed)) =
      some (0x0107, 12) := by decide

theorem test_F11_jr_NZ_e :
    after (boot [0x20, 0x05] { State.reset with f := 0x80 })
      (fun t => (t.pc, t.elapsed)) =
      some (0x0102, 8) := by decide

theorem test_F15_call_nn :
    after (boot [0xCD, 0x00, 0x02] State.reset)
      (fun t => (t.sp, t.pc, t.raw 0xFFFC, t.raw 0xFFFD, t.elapsed)) =
      some (0xFFFC, 0x0200, 0x03, 0x01, 24) := by decide

theorem test_F16_call_C_nn :
    after (boot [0xDC, 0x00, 0x03] { State.reset with f := 0x00 })
      (fun t => (t.pc, t.elapsed)) =
      some (0x0103, 12) := by decide

theorem test_F17_call_Z_nn :
    after (boot [0xCC, 0x00, 0x03] { State.reset with f := 0x80 })
      (fun t => (t.sp, t.pc, t.raw 0xFFFC, t.raw 0xFFFD, t.elapsed)) =
      some (0xFFFC, 0x0300, 0x03, 0x01, 24) := by decide

theorem test_F19_ret :
    after (boot [0xC9] ((({ State.reset with sp := 0xFFFC }).setRaw 0xFFFC 0x03).setRaw 0xFFFD 0x01))
      (fun t => (t.sp, t.pc, t.elapsed)) =
      some (0xFFFE, 0x0103, 16) := by decide

theorem test_F20_ret_Z :
    after (boot [0xC8] ((({ State.reset with sp := 0xFFFC, f := 0x80 }).setRaw 0xFFFC 0x34).setRaw 0xFFFD 0x12))
      (fun t => (t.sp, t.pc, t.elapsed)) =
      some (0xFFFE, 0x1234, 20) := by decide

theorem test_F21_ret_Z :
    after (boot [0xC8] ((({ State.reset with sp := 0xFFFC, f := 0x00 }).setRaw 0xFFFC 0x34).setRaw 0xFFFD 0x12))
      (fun t => (t.pc, t.elapsed)) =
      some (0x0101, 8) := by decide

theorem test_F23_reti :
    after (boot [0xD9] ((({ State.reset with sp := 0xFFFC }).setRaw 0xFFFC 0x34).setRaw 0xFFFD 0x12))
      (fun t => (t.sp, t.pc, t.ime, t.elapsed)) =
      some (0xFFFE, 0x1234, true, 16) := by decide

theorem test_F24_rst_28 :
    after (boot [0xEF] State.reset)
      (fun t => (t.sp, t.pc, t.raw 0xFFFC, t.raw 0xFFFD, t.elapsed)) =
      some (0xFFFC, 0x0028, 0x01, 0x01, 16) := by decide
theorem test_nop_V7 : after (boot [] State.reset) (fun t => (t.pc, t.a, t.f, t.elapsed)) = some (0x0101, 0x01, 0xB0, 4) := by
  decide

theorem test_di : after (boot [0xF3] { State.reset with ime := true }) (fun t => (t.ime, t.elapsed)) = some (false, 4) := by
  decide

theorem test_ei : after (boot [0xFB] State.reset) (fun t => (t.ime, t.elapsed)) = some (true, 4) := by decide

theorem test_halt :
    after (boot [0x76] State.reset) (fun t => (t.halted, t.pc, t.elapsed)) = some (true, 0x0101, 4) := by decide

theorem test_stop :
    after (boot [0x10, 0x99] State.reset) (fun t => (t.status, t.pc, t.elapsed)) = some (.refusedStop 0x0100, 0x0102, 0) := by
  decide

theorem test_stop_then_refused :
    step { State.reset with status := .refusedStop 0x0100 } = .refused (.stopExecuted 0x0100) := rfl

theorem test_undefined_D3 :
    after (boot [0xD3] State.reset) (fun t => (t.status, t.pc, t.elapsed)) = some (.faulted 0x0100 0xD3, 0x0101, 0) := by
  decide

theorem test_undefined_then_fault :
    step { State.reset with status := .faulted 0x0100 0xD3 } = .fault (.decodeFailure 0x0100 0xD3) := rfl

theorem test_ended_gate : step { State.reset with ended := true, budget := .max } = .fault .runEnded := rfl

theorem test_budget_gate : step State.reset = .fault .budgetSpent := rfl

/-! ## The machine around the instructions -/

/-- V5: line 0 is served first, only its bit is cleared. -/
theorem test_dispatch_V5 :
    after (((boot [] { State.reset with ime := true }).setRaw 0xFFFF 0x1F).setRaw 0xFF0F 0x05)
      (fun t => [(t.sp, t.raw 0xFFFC, t.raw 0xFFFD), (t.pc, t.raw 0xFF0F, if t.ime then 1 else 0)]) =
      some [(0xFFFC, 0x00, 0x01), (0x0040, 0x04, 0)] := by decide

/-- V3: tile 1 row 0, low plane first, then high plane first. -/
theorem test_tile_row_V3 :
    (write 0x8011 0x7E (write 0x8010 0x3C State.reset)).cachedTileRow 1 0 = [0, 2, 3, 3, 3, 3, 2, 0] ∧
    (write 0x8011 0x7E State.reset).cachedTileRow 1 0 = [0, 2, 2, 2, 2, 2, 2, 0] := by decide

/-- V8: the scanline wraps from 153 to 0, and STAT is 0x06 there. -/
theorem test_scanline_wrap_V8 :
    (fun t : State => (t.scanline, t.mode, t.nextEvent, t.raw 0xFF41))
      (ppuTimingCheck { State.reset with scanline := 153, mode := .hblank, elapsed := 70224, nextEvent := 70224 }) =
      (0, .spriteSearch, 70304, 0x06) := by decide

/-- T6: the enable edge requests nothing, even with STAT bits 5 and 6 set and LY = LYC. -/
theorem test_enable_edge_T6 :
    (fun t : State => (t.mode, t.scanline, t.nextEvent, t.raw 0xFF41, t.raw 0xFF0F))
      (write 0xFF40 0x91 (({ State.reset with lcdOn := false, mode := .hblank, elapsed := 2200 } : State).setRaw 0xFF41 0x64)) =
      (.spriteSearch, 0, 2280, 0x66, 0x00) := by decide

/-- G24: at equal X the lower OAM index is drawn last; G22: else the larger X. -/
theorem test_sprite_order_G22_G24 :
    drawnBefore (1, { Sprite.zero with x := 10 }) (0, { Sprite.zero with x := 10 }) = true ∧
    drawnBefore (1, { Sprite.zero with x := 10 }) (0, { Sprite.zero with x := 12 }) = true := by decide

/-! ## Witnesses: states and operands that meet the hypotheses of the obligations, clause by clause -/

/-- Power-on with a budget: the first step is a `NOP`. -/
def ready : State := { State.reset with budget := .upTo 1000 }

theorem test_ready_open : ready.gateOpen ∧ ready.idles = false ∧ ready.dispatches = false := ⟨⟨rfl, rfl, rfl⟩, rfl, rfl⟩

theorem test_witness_EncodeAfterDecode : decode [0x3E, 0x42, 0x99] = .ok (.ld_A_n 0x42, [0x99]) := rfl

theorem test_witness_FetchReadsOneInstruction : 2 < (fetchBytes (boot [0xC3, 0x50, 0x01] State.reset)).length := by decide

theorem test_witness_StepRunsDecoded :
    ready.gateOpen ∧ ready.idles = false ∧ ready.dispatches = false ∧ decode (fetchBytes ready) = .ok (.nop, []) :=
  ⟨⟨rfl, rfl, rfl⟩, rfl, rfl, rfl⟩

/-- The bound is met: a `CALL` begun one unit before the budget is spent ends 23 units beyond it. -/
theorem test_witness_GateDecidesStep :
    ((next? (step { boot [0xCD] State.reset with budget := .upTo 1 })).map fun t => t.elapsed) = some (1 + 23) := by decide

theorem test_witness_IdleTick :
    ({ ready with halted := true } : State).gateOpen ∧ ready.raw 0xFFFF &&& ready.raw 0xFF0F &&& 0x1F = 0 :=
  ⟨⟨rfl, rfl, rfl⟩, by decide⟩

/-- Interrupts pending at line 4 alone, with `IME` set and the stack at an address. -/
def interrupted (line : Byte) (sp : Word) : State :=
  ((({ ready with ime := true, sp := sp } : State).setRaw 0xFFFF 0x1F).setRaw 0xFF0F line)

theorem test_witness_DispatchEffect_lowest :
    (interrupted 0x05 0xFFFE).gateOpen ∧ (interrupted 0x05 0xFFFE).ime = true ∧ 0 < 5 ∧
      ((interrupted 0x05 0xFFFE).raw 0xFFFF &&& (interrupted 0x05 0xFFFE).raw 0xFF0F).getLsbD 0 = true :=
  ⟨⟨rfl, rfl, rfl⟩, rfl, by decide, by decide⟩

theorem test_witness_DispatchEffect_highest :
    (interrupted 0x10 0xFFFE).gateOpen ∧ (interrupted 0x10 0xFFFE).ime = true ∧
      ((interrupted 0x10 0xFFFE).raw 0xFFFF &&& (interrupted 0x10 0xFFFE).raw 0xFF0F).getLsbD 4 = true ∧
      ∀ j < 4, ((interrupted 0x10 0xFFFE).raw 0xFFFF &&& (interrupted 0x10 0xFFFE).raw 0xFF0F).getLsbD j = false :=
  ⟨⟨rfl, rfl, rfl⟩, rfl, by decide, by decide⟩

theorem test_witness_DispatchServesLowest :
    (interrupted 0x05 0xFE00).gateOpen ∧ (interrupted 0x05 0x0002).gateOpen ∧
      after (interrupted 0x05 0xFE00) (fun t => (t.pc, t.raw 0xFF0F)) = some (0x0040, 0x04) ∧
      after (interrupted 0x05 0x0002) (fun t => (t.pc, t.raw 0xFF0F)) = some (0x0040, 0x04) :=
  ⟨⟨rfl, rfl, rfl⟩, ⟨rfl, rfl, rfl⟩, by decide, by decide⟩

/-- The line can be set again by the timing check of the same step, where an event is due. -/
theorem test_witness_DispatchServesLowest_again :
    after ({ interrupted 0x01 0xFE00 with scanline := 143, mode := .hblank, nextEvent := 10 }) (fun t => t.raw 0xFF0F) =
      some 0x01 := by decide

theorem test_witness_UndefinedFaults :
    (boot [0xFD] ready).gateOpen ∧ (boot [0xFD] ready).idles = false ∧ (boot [0xFD] ready).dispatches = false ∧
      read (boot [0xFD] ready) (boot [0xFD] ready).pc = 0xFD ∧ (State.hostMove .endRun ready).isSome = true :=
  ⟨⟨rfl, rfl, rfl⟩, by decide, by decide, by decide, rfl⟩

theorem test_witness_StopRefuses :
    (boot [0x10] ready).gateOpen ∧ (boot [0x10] ready).idles = false ∧ (boot [0x10] ready).dispatches = false ∧
      read (boot [0x10] ready) (boot [0x10] ready).pc = 0x10 :=
  ⟨⟨rfl, rfl, rfl⟩, by decide, by decide, by decide⟩

theorem test_witness_StepAdvancesClock :
    after (boot [0xCD] ready) (fun t => (t.status, t.elapsed)) = some (.running, 24) ∧
      after (boot [0xD3] ready) (fun t => (t.status, t.elapsed)) = some (.faulted 0x0100 0xD3, 0) := by decide

theorem test_witness_RomNeverChanges :
    (next? (step ready)).isSome = true ∧ (State.hostMove (.poke 0x7FFF 0x55) ready).map (fun t => t.raw 0x7FFF) = some 0x00 ∧
      0x7FFF < 0x8000 := by decide

theorem test_witness_ModeBitsChangers :
    (next? (exec .reti ready)).isSome = true ∧ (next? (exec .di ready)).isSome = true ∧
      (next? (exec .halt ready)).isSome = true ∧ (next? (exec .nop ready)).isSome = true := by decide

theorem test_witness_FlagsChangers : ¬ writesFlags .nop ∧ ∃ t, exec .nop ready = .next t := by
  refine ⟨fun h => ?_, _, rfl⟩
  rcases h with ⟨op, x, h⟩ | ⟨x, h⟩ | ⟨x, h⟩ | h | h | h | h | ⟨rr, h⟩ | ⟨e, h⟩ | ⟨e, h⟩ | h | h | h | h | ⟨op, x, h⟩ |
    ⟨b, x, h⟩ | h
  · rcases x with x | n
    · rcases x with r | _
      · cases op <;> cases r <;> cases h
      · cases op <;> cases h
    · cases op <;> cases h
  · rcases x with r | _
    · cases r <;> cases h
    · cases h
  · rcases x with r | _
    · cases r <;> cases h
    · cases h
  · cases h
  · cases h
  · cases h
  · cases h
  · cases rr <;> cases h
  · cases h
  · cases h
  · cases h
  · cases h
  · cases h
  · cases h
  · rcases x with r | _
    · cases op <;> cases r <;> cases h
    · cases op <;> cases h
  · match b, x, h with
    | 0, .reg r, h | 1, .reg r, h | 2, .reg r, h | 3, .reg r, h | 4, .reg r, h | 5, .reg r, h | 6, .reg r, h | 7, .reg r, h =>
      cases r <;> cases h
    | 0, .memHL, h | 1, .memHL, h | 2, .memHL, h | 3, .memHL, h | 4, .memHL, h | 5, .memHL, h | 6, .memHL, h
    | 7, .memHL, h => cases h
  · cases h

/-- The end of pixel-transfer on line 143, the last visible one, with a palette whose colour 0 is not shade 0. -/
def rendering : State :=
  { ready with
    bgOn := false, palBg := { p0 := 1, p1 := 3, p2 := 3, p3 := 3 }
    mode := .pixelTransfer, scanline := 143, nextEvent := 4 }

theorem test_witness_LinesChangeAtHblankOnly :
    rendering.lcdOn = true ∧ rendering.mode = .pixelTransfer ∧
      after rendering (fun t => (t.mode, t.scanline, t.nextEvent, t.lines == rendering.lines)) =
        some (.hblank, 143, 208, false) := by decide

theorem test_witness_ByteStoreFrame :
    (∃ t, exec (Instr.ofLd .memHL (.reg .a)) ready = .next t) ∧ (∃ t, exec (.ld_mHL_n 1) ready = .next t) ∧
      (∃ t, exec (ofStoreA .hlInc) ready = .next t) ∧ storeTouches 0xC000 0xC001 = false ∧
      storeTouches 0xFF46 0xFDFF = false ∧ storeTouches 0xFF40 0xFF42 = false :=
  ⟨⟨_, rfl⟩, ⟨_, rfl⟩, ⟨_, rfl⟩, by decide, by decide, by decide⟩

theorem test_witness_WordStoreFrame :
    (∃ t, exec (Instr.ofPush .af) ready = .next t) ∧ (∃ t, exec (.call_nn 0x1234) ready = .next t) ∧
      (∃ t, exec (Instr.ofCallCond .nz 0x1234) ready = .next t) ∧ ready.cond .nz = false ∧
      (∃ t, exec (Instr.ofCallCond .z 0x1234) ready = .next t) ∧
      (∃ t, exec (Instr.ofRst 7) ready = .next t) ∧ (∃ t, exec (.ld_mnn_SP 0xFFFF) ready = .next t) :=
  ⟨⟨_, rfl⟩, ⟨_, rfl⟩, ⟨_, rfl⟩, by decide, ⟨_, rfl⟩, ⟨_, rfl⟩, ⟨_, rfl⟩⟩

theorem test_witness_ReadModifyWriteFrame :
    (∃ t, exec .inc_mHL ready = .next t) ∧ (∃ t, exec .dec_mHL ready = .next t) ∧
      (∃ t, exec (Instr.ofRot .swap .memHL) ready = .next t) ∧ (∃ t, exec (Instr.ofRes 7 .memHL) ready = .next t) ∧
      (∃ t, exec (Instr.ofSet 0 .memHL) ready = .next t) ∧ (∃ t, exec (Instr.ofBit 7 .memHL) ready = .next t) :=
  ⟨⟨_, rfl⟩, ⟨_, rfl⟩, ⟨_, rfl⟩, ⟨_, rfl⟩, ⟨_, rfl⟩, ⟨_, rfl⟩⟩

/-- With the stack at the bottom of the plain addresses, and wrapping at the top of the address space. -/
theorem test_witness_StackRoundTrip :
    storesPlainly ((0x8002 : Word) - 2) = true ∧ storesPlainly ((0x8002 : Word) - 1) = true ∧
      storesPlainly ((0x0000 : Word) - 2) = true ∧ storesPlainly ((0x0000 : Word) - 1) = true := by decide

theorem test_witness_DecimalAdjust :
    ready.f.getLsbD 6 = false ∧ ({ ready with f := 0xF0 } : State).f.getLsbD 6 = true := by decide

theorem test_witness_DecimalArithmetic :
    9 < 10 ∧ 0 < 10 ∧ ({ ready with a := 0x99 } : State).a = byteOf (16 * 9 + 9) ∧
      ({ ready with a := 0x00 } : State).a = byteOf (16 * 0 + 0) := by decide

theorem test_witness_BitOperations : (7 : Nat) ≠ (0 : Fin 8).val := by decide

theorem test_witness_WriteByRegion :
    (0x7FFF : Word) < 0x8000 ∧ uninterceptedAddr 0x9800 = true ∧ uninterceptedAddr 0xFDFF = true ∧
      uninterceptedAddr 0xFEA0 = true ∧ uninterceptedAddr 0xFFFF = true ∧ uninterceptedAddr 0xFF0F = true := by decide

/-- No address falls under two clauses: below 0x8000, in VRAM's tile data, in OAM, at P1 and at the handled PPU registers no
address is an unintercepted one. -/
theorem test_witness_WriteByRegion_apart :
    ([0x0000, 0x7FFF, 0x8000, 0x97FF, 0xFE00, 0xFE9F, 0xFF00, 0xFF40, 0xFF41, 0xFF44, 0xFF45, 0xFF46, 0xFF47, 0xFF49] :
        List Word).all (fun k => !uninterceptedAddr k) = true ∧
    ([0x9800, 0x9FFF, 0xA000, 0xFDFF, 0xFEA0, 0xFEFF, 0xFF01, 0xFF3F, 0xFF42, 0xFF43, 0xFF4A, 0xFF4B, 0xFF4C, 0xFFFF] :
        List Word).all uninterceptedAddr = true := by decide

/-- What 0xFF is stored as on both sides of each boundary (R111, R65, R71, R74): dropped, stored whole, STAT's bits 6:3 over
its low 6, P1 with no group selected. -/
theorem test_write_at_boundaries :
    ([0x7FFF, 0x8000, 0x97FF, 0x9800, 0xFE00, 0xFE9F, 0xFEA0, 0xFF40, 0xFF41, 0xFF42, 0xFF43, 0xFF44, 0xFF45] : List Word).map
        (fun k => read (write k 0xFF ready) k) =
      [0x00, 0xFF, 0xFF, 0xFF, 0xFF, 0xFF, 0xFF, 0xFF, 0x7E, 0xFF, 0xFF, 0x00, 0xFF] ∧
    read (write 0xFF00 0xFF ready) 0xFF00 = 0xFF ∧ read (write 0xFF00 0x00 ready) 0xFF00 = 0xCF := by decide +kernel

/-- Only tile data re-decodes and only OAM has descriptors, up to their last bytes. -/
theorem test_write_caches_at_boundaries :
    (write 0x97FF 0x01 ready).tilePixel 383 7 7 = 2 ∧ (write 0x9800 0x01 ready).tiles = ready.tiles ∧
      (write 0xFE00 0x11 ready).sprite 0 = { Sprite.zero with y := 0x11 } ∧
      (write 0xFE9F 0x80 ready).sprite 39 = { Sprite.zero with behind := true } ∧
      (write 0xFEA0 0x80 ready).sprites = ready.sprites := by decide +kernel

theorem test_witness_ReadAfterWrite :
    storesPlainly 0x8000 = true ∧ storesPlainly (0x8000 + 1) = true ∧ storesPlainly 0xFFFF = true := by decide

theorem test_witness_OamDmaCopies :
    MemoryInv State.reset ∧ State.reset.sprites.length = 40 ∧ storeTouches 0xFF46 0xFDFF = false ∧
      storeTouches 0xFF46 0xFEA0 = false :=
  ⟨rfl, List.length_replicate, by decide, by decide⟩

/-- The DMA register reads the page last written, page 0xFF among them (R76). -/
theorem test_dma_register_reads_back :
    read (write 0xFF46 0xC0 ready) 0xFF46 = 0xC0 ∧ read (write 0xFF46 0xFF ready) 0xFF46 = 0xFF := by decide +kernel

/-- An entry of a list of equal entries. -/
theorem getD_replicate {α : Type} (n k : Nat) (a d : α) (h : k < n) : (List.replicate n a).getD k d = a := by
  rw [List.getD_eq_getElem?_getD, List.getElem?_replicate, if_pos h]; rfl

/-- The lists of the state after power-on have their lengths. -/
theorem test_shape : ShapeInv ready where
  tiles := List.length_replicate
  rows := fun t ht => by
    show ((List.replicate 384 (List.replicate 8 (List.replicate 8 (0 : Colour)))).getD t []).length = 8
    rw [getD_replicate _ _ _ _ ht, List.length_replicate]
  pixels := fun t ht r hr => by
    show (((List.replicate 384 (List.replicate 8 (List.replicate 8 (0 : Colour)))).getD t []).getD r []).length = 8
    rw [getD_replicate _ _ _ _ ht, getD_replicate _ _ _ _ hr, List.length_replicate]
  sprites := List.length_replicate
  lines := List.length_replicate
  entries := fun ly hly => by
    show ((List.replicate 144 (List.replicate 176 (0 : Shade))).getD ly []).length = 176
    rw [getD_replicate _ _ _ _ hly, List.length_replicate]

theorem test_witness_TileRowDecode : 383 < 384 ∧ 7 < 8 ∧ ShapeInv ready := ⟨by decide, by decide, test_shape⟩

theorem test_witness_LcdRegisterStores :
    ({ ready with lcdOn := false } : State).lcdOn = false ∧ (0x80 : Byte).getLsbD 7 = true ∧ ready.lcdOn = true ∧
      (0x7F : Byte).getLsbD 7 = false := by decide

/-- Each transition of the timing check has a state in which it is due. -/
theorem test_witness_TimingTransitions :
    (ready.lcdOn = true ∧ ready.elapsed < ready.nextEvent) ∧
    [(0, PpuMode.spriteSearch), (143, .pixelTransfer), (142, .hblank), (143, .hblank), (144, .hblank), (152, .hblank),
      (153, .hblank)].map
        (fun p => (fun t : State => (t.scanline, t.mode))
          (ppuTimingCheck { rendering with scanline := p.1, mode := p.2, nextEvent := 0 })) =
      [(0, .pixelTransfer), (143, .hblank), (143, .spriteSearch), (144, .hblank), (145, .hblank), (153, .hblank),
        (0, .spriteSearch)] := by decide

theorem test_witness_BackgroundAndWindow :
    143 < 144 ∧ 175 < 176 ∧ ready.spriteOn = false ∧ ready.lines.length = 144 :=
  ⟨by decide, by decide, rfl, List.length_replicate⟩

/-- Sprites on: a "behind" sprite of tile 2 (colour 1) at buffer indices 8 to 15, a front sprite of tile 3 (colour 2) at 12 to
19, and a background whose second column of cells, 16 to 23, is solid tile 1 (colour 3). -/
def layered : State :=
  { ready.setRaw 0x9801 0x01 with
    spriteOn := true, palBg := { p0 := 0, p1 := 1, p2 := 2, p3 := 3 }, palObj0 := { p0 := 0, p1 := 1, p2 := 2, p3 := 3 }
    tiles := ((ready.tiles.set 1 (List.replicate 8 (List.replicate 8 3))).set 2 (List.replicate 8 (List.replicate 8 1))).set 3
      (List.replicate 8 (List.replicate 8 2))
    sprites := (ready.sprites.set 0 { Sprite.zero with y := 16, x := 12, tile := 3 }).set 1
      { Sprite.zero with y := 16, x := 8, tile := 2, behind := true } }

/-- Each clause with sprites on: a front sprite on top at 12; none but a "behind" one at 8, the clear background over it; no
sprite at 175. -/
theorem test_witness_BackgroundAndWindow_sprites :
    layered.spriteOn = true ∧ layered.lines.length = 144 ∧ layered.TopSprite 0 12 false (0, layered.sprite 0) ∧
      layered.NoSpriteAt 0 8 false ∧ layered.TopSprite 0 8 true (1, layered.sprite 1) ∧
      layered.NoSpriteAt 0 175 false ∧ layered.NoSpriteAt 0 175 true := by
  unfold State.TopSprite State.NoSpriteAt
  decide +kernel

/-- Back to front on line 0 (R370 to R375): the "behind" sprite over colour 0, the front sprite over both it and the
background, the background over the baseline. With another "behind" sprite under the solid cells, these hide it. -/
theorem test_layers :
    (composeLine layered 0).drop 7 = [0, 1, 1, 1, 1, 2, 2, 2, 2, 2, 2, 2, 2, 3, 3, 3, 3] ++ List.replicate 152 0 ∧
      ((composeLine { layered with sprites := ready.sprites.set 1 { Sprite.zero with y := 16, x := 12, tile := 2, behind := true } }
        0).drop 7).take 17 = [0, 0, 0, 0, 0, 1, 1, 1, 1, 3, 3, 3, 3, 3, 3, 3, 3] := by decide +kernel

/-- Two overlapping front sprites of solid tiles on line 0, as in G22: sprite 0 at `x` = 12, sprite 1 at `x` = 10. -/
def twoSprites : State :=
  { ready with
    tiles := ready.tiles.set 2 (List.replicate 8 (List.replicate 8 1))
    sprites := (ready.sprites.set 0 { Sprite.zero with y := 16, x := 12, tile := 2 }).set 1
      { Sprite.zero with y := 16, x := 10, tile := 2 } }

theorem test_witness_SpritePriority :
    (spritesOfLine twoSprites 0 false).map (fun p => (p.1, twoSprites.spriteColour 0 p.2 12)) = [(1, 1), (0, 1)] ∧
      (List.replicate 176 (0 : Shade)).length = 176 ∧ spritesOfLine twoSprites 8 false = [] := by decide +kernel

theorem test_witness_SetJoypad :
    (ready.setRaw 0xFF00 0xCF).joypad.getLsbD 7 = true ∧ (0x7F : Byte).getLsbD 7 = false ∧
      ((ready.setRaw 0xFF00 0xCF).raw 0xFF00).getLsbD (if 7 < 4 then 4 else 5) = false ∧
      (ready.raw 0xFF00).getLsbD 4 = true ∧ (ready.raw 0xFF00).getLsbD 5 = true := by decide

theorem test_witness_HostAndStepOwnership :
    ready.budget = .upTo 1000 ∧ ({ ready with budget := .max } : State).budget = .max ∧
      (State.hostMove (.advanceBudget (.upTo 1000)) ready).isSome = true ∧
      (State.hostMove (.advanceBudget (.upTo 999)) ready).isSome = false ∧ (next? (step ready)).isSome = true := by decide

theorem test_witness_PowerOnState : ∃ s, State.powerOn [0x00] = some s := ⟨_, rfl⟩

theorem test_witness_PowerOnState_refused : State.powerOn [] = none := rfl

theorem test_witness_StepKeepsFlagsNibble :
    FlagsInv ready ∧ (∃ t, step ready = .next t) ∧ (∃ t, exec .nop ready = .next t) ∧ ∃ t, exec .pop_AF ready = .next t :=
  ⟨by unfold FlagsInv; decide, ⟨_, rfl⟩, ⟨_, rfl⟩, ⟨_, rfl⟩⟩

/-- A coherent state from which a step and a host move are possible. -/
theorem test_witness_StepKeepsCoherence :
    Inv ready ∧ (∃ t, step ready = .next t) ∧ ∃ t, State.hostMove .endRun ready = some t := by
  refine ⟨⟨by unfold FlagsInv; decide, rfl, test_shape, ⟨by decide, by decide, by decide, by decide, by decide, by decide, by decide⟩,
    ⟨?_, ?_, by decide, by decide, by decide⟩, ?_, ?_, ⟨by decide, ?_, ?_, ?_⟩, fun _ => ⟨by decide, by decide⟩⟩,
    ⟨_, rfl⟩, ⟨_, rfl⟩⟩
  · intro t ht r hr
    have low : ∀ k < 0xFF00, ready.raw k = 0 := fun k hk => by
      show Memory.initial k = 0
      unfold Memory.initial
      rw [if_pos hk]
      rfl
    have hrow : ready.cachedTileRow t r = List.replicate 8 0 := by
      show ((List.replicate 384 (List.replicate 8 (List.replicate 8 (0 : Colour)))).getD t []).getD r [] = _
      rw [getD_replicate _ _ _ _ ht, getD_replicate _ _ _ _ hr]
    unfold State.memTileRow tileRowAddr
    rw [hrow, low _ (by omega), low _ (by omega)]
    decide
  · intro i hi
    have low : ∀ k < 0xFF00, ready.raw k = 0 := fun k hk => by
      show Memory.initial k = 0
      unfold Memory.initial
      rw [if_pos hk]
      rfl
    have hs : ready.sprite i = Sprite.zero := by
      show (List.replicate 40 Sprite.zero).getD i Sprite.zero = _
      rw [getD_replicate _ _ _ _ hi]
    unfold State.memSprite
    dsimp only
    rw [hs, low _ (by omega), low _ (by omega), low _ (by omega), low _ (by omega)]
    decide
  · unfold StatInv; decide
  · unfold JoypadInv; decide
  · intro h; exact absurd h (by decide)
  · intro h; exact absurd h (by decide)
  · intro h; exact absurd h (by decide)

/-- A ROM long enough to hold the entry point, with an undefined opcode there. -/
def badRom : List Byte := List.replicate 0x0101 0xD3

theorem test_witness_ReachableCoherent : ∃ s, Reachable s ∧ s.Safe :=
  ⟨_, .powerOn [0x00] _ rfl, rfl⟩

/-- Power-on with that ROM. -/
def badStart : State := writeTable (beforeTable badRom)

theorem test_badRom_status :
    ((next? (step { badStart with budget := .max })).map fun t => t.status) = some (.faulted 0x0100 0xD3) := by
  decide +kernel

/-- A host move is possible in a faulted state, and keeps the fault. -/
theorem test_witness_ReachableCoherent_host :
    (State.hostMove (.poke 0xC000 0x12) { ready with status := .faulted 0x0100 0xD3 }).map (fun t => t.status) =
      some (.faulted 0x0100 0xD3) := by decide

/-- A faulted run is reached: power-on with that ROM, a budget, one step. -/
theorem test_witness_ReachableCoherent_ended : ∃ u, Reachable u ∧ ¬ u.Safe := by
  have on : Reachable badStart := .powerOn badRom badStart (if_pos (by decide +kernel))
  have budget : Reachable { badStart with budget := .max } := .host (.advanceBudget .max) badStart _ on rfl
  have h := test_badRom_status
  generalize hr : step { badStart with budget := .max } = r at h
  cases r with
  | next u =>
    refine ⟨u, .step _ u budget hr, fun hs => ?_⟩
    have e : u.status = .faulted 0x0100 0xD3 := by simpa [next?] using h
    exact absurd (e.symm.trans hs) (by decide)
  | fault x => simp [next?] at h
  | refused x => simp [next?] at h

end Sys2Proof.Tests
end

section
/-! The rules of one store, the OAM DMA it may start among it: what it leaves of the scanline machine, and which bytes
read as before. -/

namespace Sys2Proof.Machine

/-! ## The OAM DMA -/

/-- What every single store into OAM keeps, the OAM DMA keeps. -/
theorem oamDma_induct (P : State → Prop)
    (h : ∀ (k : Word) v s, 0xFE00 ≤ k.toNat → k.toNat ≤ 0xFE9F → P s → P (writeNoDma k v s)) (v : Byte) (s : State)
    (hs : P s) : P (oamDma v s) := by
  unfold oamDma
  refine List.foldlRecOn _ _ hs (fun t ht k hk => ?_)
  have hk : k < 160 := List.mem_range.mp hk
  exact h _ _ t (by rw [oamAddr_toNat k hk]; omega) (by rw [oamAddr_toNat k hk]; omega) ht

/-! ## The scanline machine -/

/-- The two states agree on the LCD switch and the scanline machine. -/
structure SameScan (s t : State) : Prop where
  lcdOn : t.lcdOn = s.lcdOn
  mode : t.mode = s.mode
  scanline : t.scanline = s.scanline
  nextEvent : t.nextEvent = s.nextEvent

theorem SameScan.refl (s : State) : SameScan s s := ⟨rfl, rfl, rfl, rfl⟩

theorem SameScan.trans {s t u : State} (h : SameScan s t) (k : SameScan t u) : SameScan s u :=
  ⟨k.lcdOn.trans h.lcdOn, k.mode.trans h.mode, k.scanline.trans h.scanline, k.nextEvent.trans h.nextEvent⟩

/-- Only a store to LCDC reaches the scanline machine (R340). -/
theorem StoreEffect.sameScan {k : Nat} {v : Byte} {s t : State} (h : StoreEffect k v s t) (hk : k ≠ 0xFF40) :
    SameScan s t := by
  cases h with
  | lcdc h => exact absurd h hk
  | _ => exact ⟨rfl, rfl, rfl, rfl⟩

theorem write_sameScan (ea : Word) (v : Byte) (s : State) (h : ea ≠ 0xFF40) : SameScan s (write ea v s) := by
  have hne : ea.toNat ≠ 0xFF40 := fun e => h (BitVec.eq_of_toNat_eq e)
  have one := (writeNoDma_effect ea v s).sameScan hne
  unfold write
  dsimp only
  split
  · exact oamDma_induct (SameScan s) (fun k v u h _ hu => hu.trans ((writeNoDma_effect k v u).sameScan (by omega)))
      _ _ one
  · exact one

theorem write16_sameScan (ea v : Word) (s : State) (h : ea ≠ 0xFF40) (h' : ea + 1 ≠ 0xFF40) :
    SameScan s (write16 ea v s) :=
  (write_sameScan ea _ s h).trans (write_sameScan (ea + 1) _ _ h')

/-! ## Bytes -/

/-- A store leaves every byte of memory alone but its own, OAM where it starts the DMA, and STAT where it is to LCDC or
LYC. -/
theorem write_raw_of_ne (ea : Word) (v : Byte) (s : State) (x : Nat) (hx : x ≠ ea.toNat)
    (hstat : x = 0xFF41 → ea.toNat ≠ 0xFF40 ∧ ea.toNat ≠ 0xFF45)
    (hoam : ea.toNat = 0xFF46 → x < 0xFE00 ∨ 0xFE9F < x) : (write ea v s).raw x = s.raw x := by
  have one := writeNoDma_raw ea v s x hx hstat
  unfold write
  dsimp only
  split
  · next h => rw [oamDma_raw _ _ _ (hoam (congrArg BitVec.toNat h)), one]
  · exact one

/-- Stores to ROM and to LY are dropped (R74, R111). -/
theorem write_dropped (ea : Word) (v : Byte) (s : State) (h : ea < 0x8000 ∨ ea = 0xFF44) : write ea v s = s := by
  rcases h with h | rfl
  · rw [write_eq_writeNoDma ea v s (by bv_omega), writeNoDma_rom ea v s (by bv_omega)]
  · rfl

/-- A byte that a store does not touch reads as before (R111). -/
theorem read_write_of_untouched (ea : Word) (v : Byte) (s : State) (x : Word) (h : storeTouches ea x = false) :
    read (write ea v s) x = read s x := by
  by_cases hd : ea < 0x8000 ∨ ea = 0xFF44
  · rw [write_dropped ea v s hd]
  obtain ⟨hrom, hly⟩ := not_or.mp hd
  unfold storeTouches at h
  rw [if_neg hrom, if_neg hly] at h
  have h40 : ea = 0xFF40 → x ≠ 0xFF40 ∧ x ≠ 0xFF41 ∧ x ≠ 0xFF44 := by rintro rfl; simpa [and_assoc] using h
  have h45 : ea = 0xFF45 → x ≠ 0xFF45 ∧ x ≠ 0xFF41 := by rintro rfl; simpa using h
  have h46 : ea = 0xFF46 → x ≠ 0xFF46 ∧ (0xFE00 ≤ x → 0xFE9F < x) := by rintro rfl; simpa using h
  have hself : x ≠ ea := by
    rintro rfl
    split_ifs at h <;> simp_all
  unfold read
  split
  · next hx => rw [(write_sameScan ea v s (fun e => (h40 e).2.2 hx)).scanline]
  · refine write_raw_of_ne ea v s x.toNat ?_ ?_ ?_ <;> bv_omega

end Sys2Proof.Machine
end

section
/-! The stack and the stores of two bytes: what a push, a call and a return read, write and leave (R24, R115, R205, R296). -/

namespace Sys2Proof.Machine

/-! ## Plain stores -/

/-- At an address that stores plainly the byte reads back. -/
theorem read_write_self (ea : Word) (v : Byte) (s : State) (h : storesPlainly ea = true) : read (write ea v s) ea = v := by
  simp only [storesPlainly, Bool.and_eq_true, decide_eq_true_eq] at h
  obtain ⟨⟨⟨⟨⟨⟨hrom, hp1⟩, h40⟩, h41⟩, h44⟩, h45⟩, h46⟩ := h
  rw [write_eq_writeNoDma ea v s h46, read, if_neg h44]
  have he := writeNoDma_effect ea v s
  generalize writeNoDma ea v s = t at he
  have self : (s.setRaw ea.toNat v).raw ea.toNat = v := (State.raw_setRaw s _ _ _).trans (if_pos rfl)
  cases he with
  | dropped h => exact absurd h (by bv_omega)
  | p1 h => exact absurd h (by bv_omega)
  | lcdc h => exact absurd h (by bv_omega)
  | stat h => exact absurd h (by bv_omega)
  | lyc h => exact absurd h (by bv_omega)
  | tile | oam | plain => exact self
  | bgp h | obp0 h | obp1 h => rw [h] at self ⊢; exact self

/-- A store at an address that stores plainly leaves every other byte. -/
theorem read_write_other (ea : Word) (v : Byte) (s : State) (x : Word) (h : storesPlainly ea = true) (hx : x ≠ ea) :
    read (write ea v s) x = read s x := by
  refine read_write_of_untouched ea v s x ?_
  simp only [storesPlainly, Bool.and_eq_true, decide_eq_true_eq] at h
  obtain ⟨⟨⟨⟨⟨⟨hrom, hp1⟩, h40⟩, h41⟩, h44⟩, h45⟩, h46⟩ := h
  have hrom : ¬ ea < 0x8000 := by bv_omega
  simp only [storeTouches, if_neg hrom, if_neg h44, if_neg h46, if_neg h40, if_neg h45, decide_eq_false hx]

/-- A word stored at two addresses that store plainly reads back (R113, R115). -/
theorem read16_write16 (ea v : Word) (s : State) (h : storesPlainly ea = true) (h' : storesPlainly (ea + 1) = true) :
    read16 (write16 ea v s) ea = v := by
  unfold read16 write16
  rw [read_write_self _ _ _ h', read_write_other _ _ _ _ h' (by bv_omega), read_write_self _ _ _ h, mk16_hi8_lo8]

/-! ## The stack -/

@[simp] theorem push_sp (v : Word) (s : State) : (push v s).sp = s.sp - 2 := write16_sp _ _ _
@[simp] theorem callTo_sp (v : Word) (s : State) : (callTo v s).sp = s.sp - 2 := push_sp _ _
@[simp] theorem callTo_pc (v : Word) (s : State) : (callTo v s).pc = v := rfl
@[simp] theorem popPc_sp (s : State) : (popPc s).sp = s.sp + 2 := rfl
@[simp] theorem popPc_pc (s : State) : (popPc s).pc = read16 s s.sp := rfl
@[simp] theorem stepClock_read16 (k : Nat) (s : State) (x : Word) : read16 (stepClock k s) x = read16 s x := rfl
@[simp] theorem callTo_read16 (v : Word) (s : State) (x : Word) : read16 (callTo v s) x = read16 (push s.pc s) x := rfl

/-- What a push leaves at the new top of the stack. -/
theorem read16_push (v : Word) (s : State) (h : storesPlainly (s.sp - 2) = true) (h' : storesPlainly (s.sp - 1) = true) :
    read16 (push v s) (s.sp - 2#16) = v :=
  read16_write16 (s.sp - 2) v _ h (by rwa [show s.sp - 2 + 1 = s.sp - 1 by bv_omega])

/-! ## The rows and their shapes -/

theorem exec_ofPush (rr : R16Stk) (s : State) : exec (Instr.ofPush rr) s = pushPair rr s := by cases rr <;> rfl
theorem exec_ofPop (rr : R16Stk) (s : State) : exec (Instr.ofPop rr) s = popPair rr s := by cases rr <;> rfl
theorem exec_ofCallCond (cc : Cond) (nn : Word) (s : State) : exec (Instr.ofCallCond cc nn) s = callIf cc nn s := by
  cases cc <;> rfl

/-- `RST` goes to one of the eight targets (R301). -/
theorem exec_ofRst (y : Fin 8) (s : State) : exec (Instr.ofRst y) s = restart (byteOf (8 * y.val)) s := by
  fin_cases y <;> rfl

/-! ## What is pushed is popped -/

theorem mk16_and_clear (hi lo : Byte) : mk16 hi (lo &&& 0xF0) = mk16 hi lo &&& 0xFFF0 := by
  have h : hi &&& 0xFF = hi := BitVec.and_allOnes
  calc mk16 hi (lo &&& 0xF0) = (hi &&& 0xFF) ++ (lo &&& 0xF0) := by rw [h]; rfl
    _ = mk16 hi lo &&& 0xFFF0 := BitVec.and_append.symm

/-- A pair reads back what was written to it, but for the low nibble of `F` (R206, R207). -/
theorem State.r16stk_setR16stk (s : State) (rr : R16Stk) (v : Word) :
    (s.setR16stk rr v).r16stk rr = if rr = .af then v &&& 0xFFF0 else v := by
  cases rr with
  | bc => exact State.setBC_bc s v
  | de => exact State.setDE_de s v
  | hl => exact State.setHL_hl s v
  | af =>
    refine (mk16_and_clear (hi8 v) (lo8 v)).trans ?_
    rw [mk16_hi8_lo8]
    rfl

@[simp] theorem stepClock_r16stk (k : Nat) (s : State) (rr : R16Stk) : (stepClock k s).r16stk rr = s.r16stk rr := by
  cases rr <;> rfl
@[simp] theorem State.setR16stk_sp (s : State) (rr : R16Stk) (v : Word) : (s.setR16stk rr v).sp = s.sp := by
  cases rr <;> rfl

/-- Settles O27: the pop reads at the address the push left in `SP`. -/
theorem stackRoundTrip : Obligations.StackRoundTrip := by
  intro s h h'
  refine ⟨fun from_ to_ => ?_, fun nn => ?_⟩
  · refine ⟨_, _, exec_ofPush from_ s, exec_ofPop to_ _, ?_, ?_⟩
    · simp
    · simp [State.r16stk_setR16stk, read16_push _ s h h']
  · refine ⟨stepClock 24 (callTo nn s), stepClock 16 (popPc (stepClock 24 (callTo nn s))), rfl, rfl, ?_, ?_, ?_⟩
    · simp
    · simp [read16_push _ s h h']
    · simp

end Sys2Proof.Machine
end

section
/-! Frames: which parts of the state a store, a push and a call leave, and which bytes read as before (R24, R111, R115). -/

namespace Sys2Proof.Machine

/-! ## Parts -/

/-- What agrees on the CPU, the host's interface and the lines keeps every part. -/
theorem SameCore.keeps {s t : State} (h : SameCore s t) (l : List Part) : Keeps l s t := by
  intro p _
  cases p with
  | reg r => exact h.r8 r
  | flags => exact h.f
  | sp => exact h.sp
  | pc => exact h.pc
  | ime => exact h.ime
  | halted => exact h.halted
  | status => exact h.status
  | budget => exact h.budget
  | ended => exact h.ended
  | joypad => exact h.joypad
  | lines => exact h.lines

theorem SamePart.trans {s t u : State} {p : Part} (h : SamePart s t p) (k : SamePart t u p) : SamePart s u p := by
  cases p <;> exact Eq.trans k h

theorem Keeps.trans {s t u : State} {l : List Part} (h : Keeps l s t) (k : Keeps l t u) : Keeps l s u :=
  fun p hp => (h p hp).trans (k p hp)

theorem Keeps.mono {s t : State} {l m : List Part} (h : Keeps l s t) (hlm : l ⊆ m) : Keeps m s t :=
  fun p hp => h p (fun hl => hp (hlm hl))

theorem keeps_setSp (s : State) (v : Word) : Keeps [.sp] s { s with sp := v } := by
  intro p hp
  cases p with
  | sp => exact absurd (List.mem_singleton_self _) hp
  | reg r => cases r <;> rfl
  | _ => rfl

theorem keeps_setPc (s : State) (v : Word) : Keeps [.pc] s { s with pc := v } := by
  intro p hp
  cases p with
  | pc => exact absurd (List.mem_singleton_self _) hp
  | reg r => cases r <;> rfl
  | _ => rfl

theorem stepClock_keeps (k : Nat) (s : State) : Keeps [] s (stepClock k s) := by
  intro p _
  cases p with
  | reg r => exact stepClock_r8 s k r
  | _ => rfl

theorem push_keeps (v : Word) (s : State) : Keeps [.sp] s (push v s) :=
  (keeps_setSp s _).trans ((write16_core _ _ _).keeps _)

theorem callTo_keeps (v : Word) (s : State) : Keeps [.sp, .pc] s (callTo v s) :=
  ((push_keeps s.pc s).mono (by simp)).trans ((keeps_setPc (push s.pc s) v).mono (by simp))

/-! ## Bytes -/

theorem BytesKept.refl (l : List Word) (s : State) : BytesKept l s s := fun _ _ => rfl

theorem write16_bytesKept (ea v : Word) (s : State) : BytesKept [ea, ea + 1] s (write16 ea v s) := by
  intro x hx
  exact (read_write_of_untouched _ _ _ x (hx _ (by simp))).trans (read_write_of_untouched _ _ _ x (hx _ (by simp)))

theorem push_bytesKept (v : Word) (s : State) : BytesKept [s.sp - 2, s.sp - 2 + 1] s (push v s) :=
  write16_bytesKept (s.sp - 2) v { s with sp := s.sp - 2 }

theorem callTo_bytesKept (v : Word) (s : State) : BytesKept [s.sp - 2, s.sp - 2 + 1] s (callTo v s) :=
  push_bytesKept s.pc s

/-! ## The clock adds nothing -/

theorem Keeps.clocked {l : List Part} {s t : State} (h : Keeps l s t) (k : Nat) : Keeps l s (stepClock k t) :=
  h.trans ((stepClock_keeps k t).mono (List.nil_subset l))

theorem BytesKept.clocked {l : List Word} {s t : State} (h : BytesKept l s t) (k : Nat) :
    BytesKept l s (stepClock k t) := h

theorem stepClock_sameMemory (k : Nat) (s : State) : SameMemory s (stepClock k s) := ⟨rfl, by constructor <;> rfl⟩

/-- A call, taken or not (R297). -/
theorem callIf_frame {cc : Cond} {nn : Word} {s t : State} (h : callIf cc nn s = .next t) :
    Keeps [.sp, .pc] s t ∧ BytesKept [s.sp - 2, s.sp - 2 + 1] s t ∧
      (s.cond cc = false → Keeps [] s t ∧ SameMemory s t) := by
  unfold callIf at h
  split at h
  · next hc =>
    cases h
    exact ⟨(callTo_keeps nn s).clocked 24, (callTo_bytesKept nn s).clocked 24, fun hf => absurd hc (by simp [hf])⟩
  · cases h
    exact ⟨(stepClock_keeps 12 s).mono (by simp), BytesKept.refl _ s,
      fun _ => ⟨stepClock_keeps 12 s, stepClock_sameMemory 12 s⟩⟩

/-- Settles O26: each row is a word store, a push or a call, and then the clock. -/
theorem wordStoreFrame : Obligations.WordStoreFrame := by
  intro s t
  refine ⟨fun rr h => ?_, fun nn h => ?_, fun cc nn h => ?_, fun y h => ?_, fun nn h => ?_⟩
  · rw [exec_ofPush] at h
    cases h
    exact ⟨(push_keeps _ s).clocked 16, (push_bytesKept _ s).clocked 16⟩
  · cases h
    exact ⟨(callTo_keeps nn s).clocked 24, (callTo_bytesKept nn s).clocked 24⟩
  · rw [exec_ofCallCond] at h
    exact callIf_frame h
  · rw [exec_ofRst] at h
    cases h
    exact ⟨(callTo_keeps _ s).clocked 16, (callTo_bytesKept _ s).clocked 16⟩
  · cases h
    exact ⟨((write16_core nn s.sp s).keeps _).clocked 20, (write16_bytesKept nn s.sp s).clocked 20⟩

end Sys2Proof.Machine
end

section
/-! What each of the 46 shapes does to the flags register, the master enable and the low-power mode, and which rows of the
table have such a shape. -/

namespace Sys2Proof.Machine

/-! ## Rows -/

/-- The row of R215's table with a shape, or none where the shape writes no flags. Of the one-byte rotates the table has
four (R261 to R264). -/
def Shape.flagRow (k : Shape) : Option Instr :=
  match k with
  | .accumulate op x => some (ofAluSrc op x)
  | .incLoc x => some (Instr.ofInc x)
  | .decLoc x => some (Instr.ofDec x)
  | .adjustDecimal => some .daa
  | .complementA => some .cpl
  | .setCarry => some .scf
  | .complementCarry => some .ccf
  | .addToHl rr => some (Instr.ofAddHL rr)
  | .addOffsetToSp e => some (.add_SP_e e)
  | .loadSpOffset e => some (.ld_HL_SPe e)
  | .rotateAcc .rlc => some .rlca
  | .rotateAcc .rrc => some .rrca
  | .rotateAcc .rl => some .rla
  | .rotateAcc _ => some .rra
  | .rotateLoc op x => some (Instr.ofRot op x)
  | .testBit b x => some (Instr.ofBit b x)
  | .popPair .af => some .pop_AF
  | _ => none

/-- An instruction whose shape has a row in R215's table is that row. -/
theorem flagRow_shapeOf (i : Instr) : (shapeOf i).flagRow.getD i = i := by cases i <;> rfl

theorem rotateAcc_flagRow (op : RotOp) : (Shape.rotateAcc op).flagRow ≠ none := by cases op <;> nofun

/-- Every row of that table writes `F`. -/
theorem writesFlags_of_flagRow {k : Shape} {i : Instr} (h : k.flagRow = some i) : writesFlags i := by
  unfold Shape.flagRow at h
  split at h <;> cases h <;> simp [writesFlags]

/-- The master enable after an instruction of a shape (R300, R311, R315). -/
def Shape.imeAfter (k : Shape) (ime : Bool) : Bool :=
  match k with
  | .enableInterrupts => true
  | .retInterrupt => true
  | .disableInterrupts => false
  | _ => ime

/-- The low-power mode after an instruction of a shape (R312). -/
def Shape.haltedAfter (k : Shape) (halted : Bool) : Bool :=
  match k with
  | .enterLowPower => true
  | _ => halted

theorem imeAfter_shapeOf (i : Instr) (b : Bool) :
    (shapeOf i).imeAfter b = if i = .ei ∨ i = .reti then true else if i = .di then false else b := by
  cases i <;> rfl

theorem haltedAfter_shapeOf (i : Instr) (b : Bool) :
    (shapeOf i).haltedAfter b = if i = .halt then true else b := by
  cases i <;> rfl

/-! ## Operations that leave all three alone -/

/-- The two states agree on `F`, the master enable and the low-power mode. -/
structure SameModes (s t : State) : Prop where
  f : t.f = s.f
  ime : t.ime = s.ime
  halted : t.halted = s.halted

theorem SameModes.refl (s : State) : SameModes s s := ⟨rfl, rfl, rfl⟩

theorem SameModes.trans {s t u : State} (h : SameModes s t) (k : SameModes t u) : SameModes s u :=
  ⟨k.f.trans h.f, k.ime.trans h.ime, k.halted.trans h.halted⟩

theorem SameCore.modes {s t : State} (h : SameCore s t) : SameModes s t := ⟨h.f, h.ime, h.halted⟩

theorem setR8_modes (s : State) (r : R8) (v : Byte) : SameModes s (s.setR8 r v) := ⟨by simp, by simp, by simp⟩

theorem setLoc8_modes (s : State) (x : Loc8) (v : Byte) : SameModes s (s.setLoc8 x v) := by
  cases x with
  | reg r => exact setR8_modes s r v
  | memHL => exact (write_core _ _ _).modes

theorem setR16_modes (s : State) (rr : R16) (v : Word) : SameModes s (s.setR16 rr v) := by
  cases rr <;> exact ⟨rfl, rfl, rfl⟩

theorem ptrAfter_modes (s : State) (p : Ptr) : SameModes s (s.ptrAfter p) := by
  cases p <;> exact ⟨rfl, rfl, rfl⟩

theorem push_modes (v : Word) (s : State) : SameModes s (push v s) :=
  have h := write16_core (s.sp - 2) v { s with sp := s.sp - 2 }
  ⟨h.f, h.ime, h.halted⟩

theorem callTo_modes (v : Word) (s : State) : SameModes s (callTo v s) := by
  have h := push_modes s.pc s
  unfold callTo
  generalize push s.pc s = u at h ⊢
  exact ⟨h.f, h.ime, h.halted⟩

theorem dropWord_modes (s : State) : SameModes s (dropWord s) := ⟨rfl, rfl, rfl⟩

theorem popPc_modes (s : State) : SameModes s (popPc s) := ⟨rfl, rfl, rfl⟩

/-! ## Flag bytes -/

/-- Every flag byte the instructions compute has a zero low nibble (R26, R27). -/
theorem flagByte_low (z n h c : Bool) : flagByte z n h c &&& 0x0F = 0 := by
  revert z n h c; decide

theorem aluOut_flags_low (op : AluOp) (a x : Byte) (c : Bool) : (aluOut op a x c).flags &&& 0x0F = 0 := by
  cases op <;> exact flagByte_low _ _ _ _

/-! ## The shapes -/

/-- What running a shape does to the flags register, the master enable and the low-power mode. -/
structure CpuEffect (k : Shape) (s t : State) : Prop where
  kept : k.flagRow = none → t.f = s.f
  nibble : k.flagRow ≠ none → FlagsInv t
  ime : t.ime = k.imeAfter s.ime
  halted : t.halted = k.haltedAfter s.halted

theorem CpuEffect.of_same {k : Shape} {s u : State} (c : Nat) (m : SameModes s u) (row : k.flagRow = none)
    (ime : k.imeAfter s.ime = s.ime) (halted : k.haltedAfter s.halted = s.halted) : CpuEffect k s (stepClock c u) :=
  ⟨fun _ => m.f, fun h => absurd row h, m.ime.trans ime.symm, m.halted.trans halted.symm⟩

theorem CpuEffect.of_flags {k : Shape} {s u : State} {v : Byte} (c : Nat) (m : SameModes s u) (low : v &&& 0x0F = 0)
    (row : k.flagRow ≠ none) (ime : k.imeAfter s.ime = s.ime) (halted : k.haltedAfter s.halted = s.halted) :
    CpuEffect k s (stepClock c (u.setF v)) :=
  ⟨fun h => absurd h row, fun _ => low, m.ime.trans ime.symm, m.halted.trans halted.symm⟩

/-- A pop writes `F` only where it pops `AF`, and then clears its low nibble (R206, R207). -/
theorem popPair_cpu (rr : R16Stk) (s : State) :
    CpuEffect (.popPair rr) s (stepClock 12 ((dropWord s).setR16stk rr (read16 s s.sp))) := by
  cases rr with
  | af =>
    refine ⟨nofun, fun _ => ?_, rfl, rfl⟩
    show lo8 (read16 s s.sp) &&& 0xF0 &&& 0x0F = 0
    rw [BitVec.and_assoc]
    exact BitVec.and_zero
  | bc => exact .of_same 12 ((dropWord_modes s).trans (setR16_modes _ .bc _)) rfl rfl rfl
  | de => exact .of_same 12 ((dropWord_modes s).trans (setR16_modes _ .de _)) rfl rfl rfl
  | hl => exact .of_same 12 ((dropWord_modes s).trans (setR16_modes _ .hl _)) rfl rfl rfl

/-- `RETI` sets the master enable and leaves the other two (R300). -/
theorem retInterrupt_cpu (s : State) : CpuEffect .retInterrupt s (stepClock 16 (returnFromInterrupt s)) := by
  have m := popPc_modes s
  unfold returnFromInterrupt
  generalize popPc s = u at m ⊢
  exact ⟨fun _ => m.f, fun h => absurd rfl h, rfl, m.halted⟩

/-- Every shape answers a next state, with its effect on the three. -/
theorem Shape.run_cpu (k : Shape) (s : State) : ∃ t, k.run s = .next t ∧ CpuEffect k s t := by
  cases k with
  | copyReg => exact ⟨_, rfl, .of_same _ (setR8_modes _ _ _) rfl rfl rfl⟩
  | loadImm => exact ⟨_, rfl, .of_same _ (setR8_modes _ _ _) rfl rfl rfl⟩
  | loadHL => exact ⟨_, rfl, .of_same _ (setR8_modes _ _ _) rfl rfl rfl⟩
  | storeHL => exact ⟨_, rfl, .of_same _ (write_core _ _ _).modes rfl rfl rfl⟩
  | storeImm => exact ⟨_, rfl, .of_same _ (write_core _ _ _).modes rfl rfl rfl⟩
  | loadA => exact ⟨_, rfl, .of_same _ ((setR8_modes _ _ _).trans (ptrAfter_modes _ _)) rfl rfl rfl⟩
  | storeA => exact ⟨_, rfl, .of_same _ ((write_core _ _ _).modes.trans (ptrAfter_modes _ _)) rfl rfl rfl⟩
  | loadPair => exact ⟨_, rfl, .of_same _ (setR16_modes _ _ _) rfl rfl rfl⟩
  | storeSp => exact ⟨_, rfl, .of_same _ (write16_core _ _ _).modes rfl rfl rfl⟩
  | copyHlToSp => exact ⟨_, rfl, .of_same _ ⟨rfl, rfl, rfl⟩ rfl rfl rfl⟩
  | loadSpOffset => exact ⟨_, rfl, .of_flags _ ⟨rfl, rfl, rfl⟩ (flagByte_low _ _ _ _) nofun rfl rfl⟩
  | pushPair => exact ⟨_, rfl, .of_same _ (push_modes _ _) rfl rfl rfl⟩
  | popPair rr => exact ⟨_, rfl, popPair_cpu rr s⟩
  | accumulate => exact ⟨_, rfl, .of_flags _ (setR8_modes _ _ _) (aluOut_flags_low _ _ _ _) nofun rfl rfl⟩
  | incLoc => exact ⟨_, rfl, .of_flags _ (setLoc8_modes _ _ _) (flagByte_low _ _ _ _) nofun rfl rfl⟩
  | decLoc => exact ⟨_, rfl, .of_flags _ (setLoc8_modes _ _ _) (flagByte_low _ _ _ _) nofun rfl rfl⟩
  | adjustDecimal => exact ⟨_, rfl, .of_flags _ (setR8_modes _ _ _) (flagByte_low _ _ _ _) nofun rfl rfl⟩
  | complementA => exact ⟨_, rfl, .of_flags _ (setR8_modes _ _ _) (flagByte_low _ _ _ _) nofun rfl rfl⟩
  | setCarry => exact ⟨_, rfl, .of_flags _ (.refl s) (flagByte_low _ _ _ _) nofun rfl rfl⟩
  | complementCarry => exact ⟨_, rfl, .of_flags _ (.refl s) (flagByte_low _ _ _ _) nofun rfl rfl⟩
  | addToHl => exact ⟨_, rfl, .of_flags _ ⟨rfl, rfl, rfl⟩ (flagByte_low _ _ _ _) nofun rfl rfl⟩
  | incPair => exact ⟨_, rfl, .of_same _ (setR16_modes _ _ _) rfl rfl rfl⟩
  | decPair => exact ⟨_, rfl, .of_same _ (setR16_modes _ _ _) rfl rfl rfl⟩
  | addOffsetToSp => exact ⟨_, rfl, .of_flags _ ⟨rfl, rfl, rfl⟩ (flagByte_low _ _ _ _) nofun rfl rfl⟩
  | jump => exact ⟨_, rfl, .of_same _ ⟨rfl, rfl, rfl⟩ rfl rfl rfl⟩
  | jumpIf cc nn =>
    simp only [Shape.run, Machine.jumpIf]
    split <;> exact ⟨_, rfl, .of_same _ ⟨rfl, rfl, rfl⟩ rfl rfl rfl⟩
  | jumpHl => exact ⟨_, rfl, .of_same _ ⟨rfl, rfl, rfl⟩ rfl rfl rfl⟩
  | jumpRel => exact ⟨_, rfl, .of_same _ ⟨rfl, rfl, rfl⟩ rfl rfl rfl⟩
  | jumpRelIf cc e =>
    simp only [Shape.run, Machine.jumpRelIf]
    split <;> exact ⟨_, rfl, .of_same _ ⟨rfl, rfl, rfl⟩ rfl rfl rfl⟩
  | call => exact ⟨_, rfl, .of_same _ (callTo_modes _ _) rfl rfl rfl⟩
  | callIf cc nn =>
    simp only [Shape.run, Machine.callIf]
    split
    · exact ⟨_, rfl, .of_same _ (callTo_modes _ _) rfl rfl rfl⟩
    · exact ⟨_, rfl, .of_same _ (.refl s) rfl rfl rfl⟩
  | ret => exact ⟨_, rfl, .of_same _ (popPc_modes s) rfl rfl rfl⟩
  | retIf cc =>
    simp only [Shape.run, Machine.retIf]
    split
    · exact ⟨_, rfl, .of_same _ (popPc_modes s) rfl rfl rfl⟩
    · exact ⟨_, rfl, .of_same _ (.refl s) rfl rfl rfl⟩
  | retInterrupt => exact ⟨_, rfl, retInterrupt_cpu s⟩
  | restart => exact ⟨_, rfl, .of_same _ (callTo_modes _ _) rfl rfl rfl⟩
  | doNothing => exact ⟨_, rfl, .of_same _ (.refl s) rfl rfl rfl⟩
  | disableInterrupts => exact ⟨_, rfl, fun _ => rfl, fun h => absurd rfl h, rfl, rfl⟩
  | enableInterrupts => exact ⟨_, rfl, fun _ => rfl, fun h => absurd rfl h, rfl, rfl⟩
  | enterLowPower => exact ⟨_, rfl, fun _ => rfl, fun h => absurd rfl h, rfl, rfl⟩
  | stopRefused => exact ⟨_, rfl, fun _ => rfl, fun h => absurd rfl h, rfl, rfl⟩
  | undefinedOpcode => exact ⟨_, rfl, fun _ => rfl, fun h => absurd rfl h, rfl, rfl⟩
  | rotateAcc => exact ⟨_, rfl, .of_flags _ (setR8_modes _ _ _) (flagByte_low _ _ _ _) (rotateAcc_flagRow _) rfl rfl⟩
  | rotateLoc => exact ⟨_, rfl, .of_flags _ (setLoc8_modes _ _ _) (flagByte_low _ _ _ _) nofun rfl rfl⟩
  | testBit => exact ⟨_, rfl, .of_flags _ (.refl s) (flagByte_low _ _ _ _) nofun rfl rfl⟩
  | clearBit => exact ⟨_, rfl, .of_same _ (setLoc8_modes _ _ _) rfl rfl rfl⟩
  | assignBit => exact ⟨_, rfl, .of_same _ (setLoc8_modes _ _ _) rfl rfl rfl⟩

/-- The same of every instruction. -/
theorem exec_cpu {i : Instr} {s t : State} (h : exec i s = .next t) : CpuEffect (shapeOf i) s t := by
  obtain ⟨u, hu, he⟩ := (shapeOf i).run_cpu s
  rw [exec_eq, hu] at h
  cases h
  exact he

/-! ## The statements about instructions -/

/-- Settles O17, shape by shape. -/
theorem modeBitsChangers : Obligations.ModeBitsChangers := by
  intro i s t h
  have he := exec_cpu h
  exact ⟨he.ime.trans (imeAfter_shapeOf i s.ime), he.halted.trans (haltedAfter_shapeOf i s.halted)⟩

/-- Settles O18: an instruction whose shape writes `F` is a row of R215's table. -/
theorem flagsChangers : Obligations.FlagsChangers := by
  intro i s t hi h
  refine (exec_cpu h).kept ?_
  cases hrow : (shapeOf i).flagRow with
  | none => rfl
  | some j =>
    have hj : j = i := by simpa [hrow] using flagRow_shapeOf i
    exact absurd (hj ▸ writesFlags_of_flagRow hrow) hi

/-- An instruction keeps the low nibble of `F` zero: it leaves `F`, or writes one with a zero low nibble. -/
theorem exec_flagsInv {i : Instr} {s t : State} (hs : FlagsInv s) (h : exec i s = .next t) : FlagsInv t := by
  have he := exec_cpu h
  by_cases hrow : (shapeOf i).flagRow = none
  · unfold FlagsInv
    rw [he.kept hrow]
    exact hs
  · exact he.nibble hrow

end Sys2Proof.Machine
end

section
/-! What one step and one host move do to the rest of the machine: a step is stores, a charge of at most 24 and, unless it
ends the run, a timing check (R430, R431); a host move is one of four things (R450, R452). -/

namespace Sys2Proof.Machine

/-! ## One step -/

theorem afterInstr_running {s : State} (h : s.status = .running) : afterInstr s = ppuTimingCheck s := if_pos h

theorem afterInstr_scan (s : State) : SameButScan s (afterInstr s) := by
  unfold afterInstr
  split
  · exact ppuTimingCheck_scan s
  · exact .refl s

/-- Taking an interrupt is two stores of the push and one to IF, and its charge (R420). -/
theorem dispatch_effect (s : State) : ∃ u, Effect s u ∧ u.status = s.status ∧ u.f = s.f ∧ dispatch s = stepClock 16 u := by
  refine ⟨_, ?_, ?_, ?_, dispatch_eq s⟩
  · refine .store 0xFF0F _ (.cpu (push_effect s s.pc) ?_)
    generalize push s.pc s = u
    constructor <;> rfl
  · exact push_status s s.pc
  · exact (push_modes s.pc s).f

/-- What is charged is never above 24 (R480). -/
theorem Charged.le {s u : State} {c : Nat} (h : Charged s u c) : c ≤ 24 := by
  cases h with
  | runs _ _ high _ => exact high
  | stops _ zero => omega

/-- What ends the run charges nothing (R313, R314). -/
theorem Charged.eq_zero {s u : State} {c : Nat} (h : Charged s u c) (hs : s.status = .running) (hu : u.status ≠ .running) :
    c = 0 := by
  cases h with
  | runs st _ _ _ => exact absurd (st.trans hs) hu
  | stops _ zero => exact zero

/-- A step that answers a next state makes stores, charges its cost and then runs the timing check, unless the run ended. -/
theorem step_effect {s t : State} (h : step s = .next t) :
    ∃ u c, Effect s u ∧ c ≤ 24 ∧ (u.status ≠ .running → c = 0) ∧ t = afterInstr (stepClock c u) := by
  obtain ⟨⟨hrun, -, -⟩, ⟨-, rfl⟩ | ⟨-, -, rfl⟩ | ⟨-, -, u, hu, rfl⟩⟩ := step_cases h
  · exact ⟨s, 4, .refl, by omega, fun hstop => absurd hrun hstop, (afterInstr_running (s := stepClock 4 s) hrun).symm⟩
  · obtain ⟨u, he, hst, -, hd⟩ := dispatch_effect (wake s)
    have hu : u.status = .running := hst.trans hrun
    refine ⟨u, 16, (Effect.same (wake_same s)).trans he, by omega, fun hstop => absurd hu hstop, ?_⟩
    rw [hd, afterInstr_running (s := stepClock 16 u) hu]
  · obtain ⟨v, c, rfl, he, hc⟩ := exec_effect hu
    exact ⟨v, c, (Effect.same ((wake_same s).trans (fetch_same _))).trans he, hc.le, hc.eq_zero hrun, rfl⟩

/-- Settles O58: only an instruction writes `F`. -/
theorem stepKeepsFlagsNibble : Obligations.StepKeepsFlagsNibble := by
  refine ⟨fun s t hs h => ?_, fun i s t hs h => exec_flagsInv hs h, fun s t h => (exec_cpu h).nibble nofun⟩
  unfold FlagsInv at hs ⊢
  obtain ⟨-, ⟨-, rfl⟩ | ⟨-, -, rfl⟩ | ⟨-, -, u, hu, rfl⟩⟩ := step_cases h
  · rw [(ppuTimingCheck_scan _).f]
    exact hs
  · obtain ⟨u, -, -, hf, hd⟩ := dispatch_effect (wake s)
    rw [(ppuTimingCheck_scan _).f, hd]
    exact (congrArg (· &&& _) hf).trans hs
  · rw [(afterInstr_scan u).f]
    exact exec_flagsInv (s := (fetch (wake s)).2) hs hu

/-! ## What stores leave to the host -/

/-- The two states agree on the clock, the host's interface and the rendered lines. -/
structure SameHost (s t : State) : Prop where
  elapsed : t.elapsed = s.elapsed
  budget : t.budget = s.budget
  ended : t.ended = s.ended
  joypad : t.joypad = s.joypad
  lines : t.lines = s.lines

theorem SameHost.trans {s t u : State} (h : SameHost s t) (k : SameHost t u) : SameHost s u :=
  ⟨k.elapsed.trans h.elapsed, k.budget.trans h.budget, k.ended.trans h.ended, k.joypad.trans h.joypad, k.lines.trans h.lines⟩

theorem Effect.sameHost {s t : State} (h : Effect s t) : SameHost s t := by
  refine h.induct (SameHost s) (fun u v e hu => hu.trans ?_) (fun k v u hu => hu.trans ?_) ⟨rfl, rfl, rfl, rfl, rfl⟩
  · exact ⟨e.elapsed, e.budget, e.ended, e.joypad, e.lines⟩
  · have e := write_core k v u
    exact ⟨e.elapsed, e.budget, e.ended, e.joypad, e.lines⟩

/-! ## One host move -/

/-- What a host move turns a state into. -/
inductive HostEffect (s : State) : State → Prop where
  | advanceBudget (b : Budget) (h : s.budget.le b = true) : HostEffect s { s with budget := b }
  | endRun : HostEffect s { s with ended := true }
  | setJoypad (new : Byte) : HostEffect s (setJoypad new s)
  | poke (k : Word) (v : Byte) : HostEffect s (write k v s)

theorem hostMove_effect {s t : State} {m : HostMove} (h : s.hostMove m = some t) : HostEffect s t := by
  cases m with
  | advanceBudget b =>
    simp only [State.hostMove] at h
    split at h
    · next hb => cases h; exact .advanceBudget b hb
    · cases h
  | endRun => cases h; exact .endRun
  | setJoypad new => cases h; exact .setJoypad new
  | poke k v => cases h; exact .poke k v

/-- Setting the joypad changes memory and the joypad state only (R441). -/
theorem setJoypad_eq (new : Byte) (s : State) :
    setJoypad new s = { s with mem := (setJoypad new s).mem, joypad := new } := by
  unfold setJoypad requestIf
  dsimp only
  split <;> rfl

/-- No host move draws a line or writes the clock or the status. -/
theorem HostEffect.frame {s t : State} (h : HostEffect s t) :
    Keeps [.budget, .ended, .joypad] s t ∧ t.elapsed = s.elapsed := by
  cases h with
  | advanceBudget b =>
    refine ⟨fun p hp => ?_, rfl⟩
    cases p with
    | budget => simp at hp
    | reg r => cases r <;> rfl
    | _ => rfl
  | endRun =>
    refine ⟨fun p hp => ?_, rfl⟩
    cases p with
    | ended => simp at hp
    | reg r => cases r <;> rfl
    | _ => rfl
  | setJoypad new =>
    rw [setJoypad_eq]
    refine ⟨fun p hp => ?_, rfl⟩
    cases p with
    | joypad => simp at hp
    | reg r => cases r <;> rfl
    | _ => rfl
  | poke k v => exact ⟨(write_core k v s).keeps _, (write_core k v s).elapsed⟩

/-- The budget is raised or left (R450). -/
theorem HostEffect.budget {s t : State} (h : HostEffect s t) : s.budget.le t.budget = true := by
  have refl : ∀ b : Budget, b.le b = true := fun b => by cases b <;> simp [Budget.le]
  cases h with
  | advanceBudget b hb => exact hb
  | endRun => exact refl _
  | setJoypad new => rw [setJoypad_eq]; exact refl _
  | poke k v => rw [write_budget]; exact refl _

theorem HostEffect.ended {s t : State} (h : HostEffect s t) (he : s.ended = true) : t.ended = true := by
  cases h with
  | advanceBudget b hb => exact he
  | endRun => rfl
  | setJoypad new => rw [setJoypad_eq]; exact he
  | poke k v => rw [write_ended]; exact he

theorem Budget.le_upTo {b : Budget} {n : Nat} (h : b.le (.upTo n) = true) : ∃ k ≤ n, b = .upTo k := by
  cases b with
  | upTo k => exact ⟨k, by simpa [Budget.le] using h, rfl⟩
  | max => simp [Budget.le] at h

/-- Settles O55: a host move by its four kinds, a step because stores and the timing check leave the host's part alone. -/
theorem hostAndStepOwnership : Obligations.HostAndStepOwnership := by
  refine ⟨fun s n => ⟨?_, fun m hm => ?_, fun hm => ?_, rfl, fun _ _ => rfl⟩, fun s t m h => ?_, fun s t h => ?_⟩
  · simp [State.hostMove, Budget.le]
  · simp [State.hostMove, Budget.le, hm]
  · simp [State.hostMove, Budget.le, hm]
  · have he := hostMove_effect h
    exact ⟨he.frame.1, he.frame.2, he.ended, fun n hn => Budget.le_upTo (hn ▸ he.budget)⟩
  · obtain ⟨u, c, he, -, -, rfl⟩ := step_effect h
    have hscan := afterInstr_scan (stepClock c u)
    have hhost := he.sameHost
    exact ⟨hscan.budget.trans hhost.budget, hscan.ended.trans hhost.ended, hscan.joypad.trans hhost.joypad⟩

/-! ## The rendered lines -/

/-- The timing check draws only at the end of pixel-transfer, and then the one row of that line (R350). -/
theorem ppuTimingCheck_lines (s : State) :
    (ppuTimingCheck s).lines = s.lines ∨
      (s.lcdOn = true ∧ s.mode = .pixelTransfer ∧ s.scanline < 144 ∧ s.nextEvent ≤ s.elapsed ∧
        (ppuTimingCheck s).mode = .hblank ∧ (ppuTimingCheck s).scanline = s.scanline ∧
        (ppuTimingCheck s).nextEvent = s.nextEvent + 204 ∧
        (ppuTimingCheck s).lines = s.lines.set s.scanline (composeLine s s.scanline)) := by
  rcases ppuTimingCheck_cases s with ⟨-, e⟩ | ⟨hon, hdue, e⟩
  · exact .inl (by rw [e])
  obtain ⟨u, hu, hr⟩ := ppuTransition_cases s
  have hlines : (ppuTimingCheck s).lines = u.lines := by rw [e]; exact hr.lines
  cases hu with
  | hblank hvis hm =>
    rw [e]
    exact .inr ⟨hon, hm, hvis, hdue, hr.mode, hr.scanline, hr.nextEvent, hr.lines⟩
  | _ => exact .inl hlines

/-- Settles O19: no store draws or starts a pixel-transfer, so the timing check did. -/
theorem linesChangeAtHblankOnly : Obligations.LinesChangeAtHblankOnly := by
  refine ⟨fun s t h hne => ?_, fun s t m h => (hostMove_effect h).frame.1 .lines (by simp)⟩
  obtain ⟨u, c, he, -, -, rfl⟩ := step_effect h
  have hsame : u.lines = s.lines := he.sameHost.lines
  by_cases hrun : u.status = .running
  swap
  · exact absurd hsame (by rwa [afterInstr, if_neg (show ¬ (stepClock c u).status = .running from hrun)] at hne)
  rw [afterInstr_running (show (stepClock c u).status = .running from hrun)] at hne ⊢
  have hscan := ppuTimingCheck_scan (stepClock c u)
  have hraw := ppuTimingCheck_raw (stepClock c u)
  obtain hl | ⟨hon, hmode, hvis, hdue, hmode', hline', hnext', hl⟩ := ppuTimingCheck_lines (stepClock c u)
  · exact absurd (hl.trans hsame) hne
  obtain ⟨hon₀, hmode₀, hline₀, hnext₀⟩ := he.pixelTransfer hmode hon
  have hline : (stepClock c u).scanline = s.scanline := hline₀
  have hnext : (stepClock c u).nextEvent = s.nextEvent := hnext₀
  have hlen : s.scanline < s.lines.length := by
    by_contra hge
    refine hne (hl.trans ?_)
    rw [hline, List.set_eq_of_length_le (by simpa [hsame] using hge)]
    exact hsame
  rw [hline] at hvis hl
  have hl' : (ppuTimingCheck (stepClock c u)).lines = s.lines.set s.scanline (composeLine (stepClock c u) s.scanline) := by
    rw [hl]; exact congrArg (List.set · _ _) hsame
  refine ⟨hon₀, hmode₀, hvis, ?_, hscan.lcdOn.trans hon, hmode', hline'.trans hline, hnext'.trans (by rw [hnext]), ?_,
    fun ly hly => ?_⟩
  · rw [hscan.elapsed, ← hnext]; exact hdue
  · rw [hscan.composeLine hraw _ hvis, hl', List.getD_eq_getElem?_getD, List.getElem?_set_self hlen, Option.getD_some]
  · rw [hl', List.getD_eq_getElem?_getD, List.getElem?_set_ne (Ne.symm hly), ← List.getD_eq_getElem?_getD]

/-! ## The clock -/

/-- A store that starts the scanline machine puts its first event 80 ahead (R341). -/
theorem StoreEffect.clockInv {k : Nat} {v : Byte} {s t : State} (h : StoreEffect k v s t) (hs : ClockInv s) :
    ClockInv t := by
  cases h with
  | lcdc =>
    rcases lcdcDecode_cases (s.setRaw 0xFF40 v) with ⟨-, -, e⟩ | ⟨-, hoff, e⟩ | ⟨hon, e⟩ <;> rw [e] <;> intro hlcd
    · show s.elapsed < s.elapsed + 80 ∧ s.elapsed + 80 ≤ s.elapsed + 456
      omega
    · exact absurd (hoff.symm.trans hlcd) nofun
    · exact hs (hon.symm.trans hlcd)
  | _ => exact hs

theorem write_clockInv (k : Word) (v : Byte) (s : State) (h : ClockInv s) : ClockInv (write k v s) :=
  write_induct ClockInv (fun k v u hu => (writeNoDma_effect k v u).clockInv hu) k v s h

theorem Effect.clockInv {s t : State} (h : Effect s t) (hs : ClockInv s) : ClockInv t := by
  refine h.induct ClockInv (fun u v e hu hon => ?_) (fun k v u hu => write_clockInv k v u hu) hs
  rw [e.elapsed, e.nextEvent]
  exact hu (e.lcdOn.symm.trans hon)

/-- A transition moves the event on by 80 to 456 (R349 to R352). -/
theorem Transition.nextEvent {s u : State} (h : Transition s u) :
    s.nextEvent + 80 ≤ u.nextEvent ∧ u.nextEvent ≤ s.nextEvent + 456 := by
  cases h <;> dsimp only <;> omega

/-- The timing check puts the next event ahead again, where it was missed by less than the shortest transition. -/
theorem ppuTimingCheck_clockInv (s : State)
    (h : s.lcdOn = true → s.elapsed < s.nextEvent + 80 ∧ s.nextEvent ≤ s.elapsed + 456) :
    ClockInv (ppuTimingCheck s) := by
  intro hon
  replace hon : s.lcdOn = true := (ppuTimingCheck_scan s).lcdOn.symm.trans hon
  rcases ppuTimingCheck_cases s with ⟨hnot, e⟩ | ⟨-, hdue, e⟩ <;> rw [e]
  · have := h hon
    have : s.elapsed < s.nextEvent := hnot.resolve_left (by simp [hon])
    omega
  · obtain ⟨u, hu, hr⟩ := ppuTransition_cases s
    have hlate := h hon
    have hmoved := hu.nextEvent
    have helapsed : (ppuTransition s).elapsed = s.elapsed := hr.same.elapsed.trans hu.scan.1.elapsed
    show (ppuTransition s).elapsed < (ppuTransition s).nextEvent ∧
      (ppuTransition s).nextEvent ≤ (ppuTransition s).elapsed + 456
    rw [helapsed, hr.nextEvent]
    omega

/-! ## Every invariant -/

theorem Inv.store {s : State} (h : Inv s) : StoreInv s :=
  ⟨h.memory, h.shape, h.lcdc, h.caches, h.stat, h.joypad, h.scanline⟩

theorem StoreInv.inv {s : State} (h : StoreInv s) (hf : FlagsInv s) (hc : ClockInv s) : Inv s :=
  ⟨hf, h.memory, h.shape, h.lcdc, h.caches, h.stat, h.joypad, h.scanline, hc⟩

theorem afterInstr_storeInv {s : State} (h : StoreInv s) : StoreInv (afterInstr s) := by
  unfold afterInstr
  split
  · exact ppuTimingCheck_storeInv s h
  · exact h

/-- A step keeps every invariant. -/
theorem step_inv {s t : State} (hs : Inv s) (h : step s = .next t) : Inv t := by
  have hf := stepKeepsFlagsNibble.1 s t hs.flags h
  obtain ⟨u, c, he, hc, hzero, rfl⟩ := step_effect h
  refine (afterInstr_storeInv (stepClock_storeInv c (he.storeInv hs.store))).inv hf ?_
  have hclock : ClockInv u := he.clockInv hs.clock
  unfold afterInstr
  split
  · refine ppuTimingCheck_clockInv _ (fun hon => ?_)
    have hu := hclock hon
    show u.elapsed + c < u.nextEvent + 80 ∧ u.nextEvent ≤ u.elapsed + c + 456
    omega
  · next hstop =>
    rw [hzero hstop]
    exact hclock

/-- The keys resolved for a selection agree with it (R65). -/
theorem joypadSelectWrite_joypadInv (v : Byte) (s : State) : JoypadInv (joypadSelectWrite v s) := by
  have e : (joypadSelectWrite v s).raw 0xFF00 = 0xC0 ||| (v &&& 0x30) ||| s.keysFor (v &&& 0x30) :=
    (State.raw_setRaw s _ _ _).trans (if_pos rfl)
  unfold JoypadInv
  rw [e, s.p1_select v]
  rfl

/-- Setting the joypad keeps the invariants of a store: it is a store to P1 of the value there, with the new keys, and
perhaps a request (R441). -/
theorem setJoypad_storeInv (new : Byte) {s : State} (h : StoreInv s) : StoreInv (setJoypad new s) := by
  have he : StoreEffect 0xFF00 (s.raw 0xFF00) { s with joypad := new }
      (joypadSelectWrite (s.raw 0xFF00) { s with joypad := new }) := .p1 rfl
  have hp1 : StoreInv (joypadSelectWrite (s.raw 0xFF00) { s with joypad := new }) :=
    ⟨storeEffect_memory (by omega) he h.memory, storeEffect_shape he (h.shape.congr rfl rfl rfl),
      storeEffect_lcdc he (h.lcdc.congr rfl rfl rfl rfl rfl rfl rfl rfl),
      storeEffect_caches he (h.shape.congr rfl rfl rfl) (h.caches.congr rfl rfl rfl rfl rfl fun _ _ => rfl),
      storeEffect_stat he (h.stat.congr rfl rfl rfl rfl rfl), joypadSelectWrite_joypadInv _ _,
      storeEffect_scanline he (h.scanline.congr rfl rfl rfl)⟩
  unfold setJoypad requestIf
  dsimp only
  split
  · exact setIf_storeInv _ hp1
  · exact hp1

/-- No invariant looks at the budget or the ended flag. -/
theorem StoreInv.setGate {s : State} (h : StoreInv s) (b : Budget) (e : Bool) :
    StoreInv { s with budget := b, ended := e } :=
  ⟨h.memory, h.shape.congr rfl rfl rfl, h.lcdc.congr rfl rfl rfl rfl rfl rfl rfl rfl,
    h.caches.congr rfl rfl rfl rfl rfl fun _ _ => rfl, h.stat.congr rfl rfl rfl rfl rfl, h.joypad.congr rfl rfl,
    h.scanline.congr rfl rfl rfl⟩

/-- A host move keeps every invariant. -/
theorem HostEffect.inv {s t : State} (h : HostEffect s t) (hs : Inv s) : Inv t := by
  cases h with
  | advanceBudget b => exact (hs.store.setGate b s.ended).inv hs.flags hs.clock
  | endRun => exact (hs.store.setGate s.budget true).inv hs.flags hs.clock
  | setJoypad new =>
    have hst := setJoypad_storeInv new hs.store
    rw [setJoypad_eq] at hst ⊢
    exact hst.inv hs.flags hs.clock
  | poke k v =>
    refine (write_storeInv k v s hs.store).inv ?_ (write_clockInv k v s hs.clock)
    unfold FlagsInv
    rw [write_f]
    exact hs.flags

/-- Settles O59: a step by the invariants of stores and of the timing check, a host move by its four kinds. -/
theorem stepKeepsCoherence : Obligations.StepKeepsCoherence :=
  ⟨fun _ _ hs h => step_inv hs h, fun _ _ _ hs h => (hostMove_effect h).inv hs⟩

end Sys2Proof.Machine
end

section
/-! The state with no ROM image placed: what its bytes read as, and that it meets every invariant (R52, R463 to R465). -/

namespace Sys2Proof.Machine

/-- Every byte that the power-on sequence does not set reads `INIT_RAM` (R463). -/
theorem initial_of_unset {k : Nat} (h : k < 0xFF00 ∨ ∀ p ∈ Memory.resetIo, k ≠ p.1) : Memory.initial k = 0 := by
  unfold Memory.initial
  split
  · rfl
  · next hk =>
    have : Memory.resetIo.lookup k = none := List.lookup_eq_none_iff.mpr fun p hp => by simpa using h.resolve_left hk p hp
    rw [this]
    rfl

theorem reset_raw (k : Nat) : State.reset.raw k = Memory.initial k := rfl

theorem reset_raw_low {k : Nat} (h : k < 0xFF00) : State.reset.raw k = 0 := initial_of_unset (.inl h)

theorem reset_pairs :
    State.reset.af = 0x01B0 ∧ State.reset.bc = 0x0013 ∧ State.reset.de = 0x00D8 ∧ State.reset.hl = 0x014D :=
  ⟨rfl, rfl, rfl, rfl⟩

/-- A byte that is no entry of the power-on table, nor P1 or STAT, reads `INIT_RAM` (R463). -/
theorem reset_raw_unset {k : Nat} (htable : ∀ p ∈ Config.powerOnTable, k ≠ p.1) (hp1 : k ≠ 0xFF00) (h41 : k ≠ 0xFF41) :
    State.reset.raw k = 0 := by
  refine initial_of_unset (.inr fun p hp => ?_)
  obtain hp | hp := List.mem_append.mp hp
  · exact htable p hp
  · simp only [List.mem_cons, List.not_mem_nil, or_false] at hp
    rcases hp with rfl | rfl
    · exact hp1
    · exact h41

theorem reset_cachedTileRow {t r : Nat} (ht : t < 384) (hr : r < 8) :
    State.reset.cachedTileRow t r = List.replicate 8 0 := by
  show ((List.replicate 384 (List.replicate 8 (List.replicate 8 (0 : Colour)))).getD t []).getD r [] = _
  rw [List.getD_replicate _ ht, List.getD_replicate _ hr]

theorem reset_sprite {i : Nat} (h : i < 40) : State.reset.sprite i = Sprite.zero := List.getD_replicate _ h

theorem reset_shapeInv : ShapeInv State.reset where
  tiles := List.length_replicate
  rows t ht := by
    show ((List.replicate 384 (List.replicate 8 (List.replicate 8 (0 : Colour)))).getD t []).length = 8
    rw [List.getD_replicate _ ht, List.length_replicate]
  pixels t ht r hr := by rw [reset_cachedTileRow ht hr, List.length_replicate]
  sprites := List.length_replicate
  lines := List.length_replicate
  entries ly hly := by
    show ((List.replicate 144 (List.replicate 176 (0 : Shade))).getD ly []).length = 176
    rw [List.getD_replicate _ hly, List.length_replicate]

theorem reset_cacheInv : CacheInv State.reset where
  tiles t ht r hr := by
    rw [reset_cachedTileRow ht hr, State.memTileRow, reset_raw_low (by unfold tileRowAddr; omega),
      reset_raw_low (by unfold tileRowAddr; omega)]
    rfl
  sprites i hi := by
    unfold State.memSprite
    dsimp only
    rw [reset_sprite hi, reset_raw_low (by omega), reset_raw_low (by omega), reset_raw_low (by omega),
      reset_raw_low (by omega)]
    rfl
  palBg := rfl
  palObj0 := rfl
  palObj1 := rfl

theorem reset_lcdcInv : LcdcInv State.reset := by constructor <;> rfl

theorem reset_scanlineInv : ScanlineInv State.reset := by constructor <;> decide

/-- Settles O57, invariant by invariant. -/
theorem resetCoherent : Obligations.ResetCoherent where
  flags := rfl
  memory := Memory.wf_reset
  shape := reset_shapeInv
  lcdc := reset_lcdcInv
  caches := reset_cacheInv
  stat := rfl
  joypad := rfl
  scanline := reset_scanlineInv
  clock := fun _ => by decide

end Sys2Proof.Machine
end

section
/-! Power-on with a ROM image, stage by stage (R460 to R465): the raw image, the blank rest, the table through `Write`. The
fields that decode a byte come out of the invariants those stores keep, the others out of the one enable edge. -/

namespace Sys2Proof.Machine

/-! ## Raw stores (R462, R463) -/

/-- Raw stores change memory only. -/
theorem placeImage_eq (a : Nat) (bytes : List Byte) (s : State) :
    placeImage a bytes s = { s with mem := (placeImage a bytes s).mem } := by
  induction bytes generalizing a s with
  | nil => rfl
  | cons b rest ih => exact ih (a + 1) (s.setRaw a b)

theorem placeImage_raw (a : Nat) (bytes : List Byte) (s : State) (k : Nat) :
    (placeImage a bytes s).raw k = if a ≤ k ∧ k < a + bytes.length then bytes.getD (k - a) 0 else s.raw k := by
  induction bytes generalizing a s with
  | nil => simp [placeImage]
  | cons b rest ih =>
    rw [placeImage, ih, State.raw_setRaw, List.length_cons]
    rcases Nat.lt_trichotomy k a with h | rfl | h
    · rw [if_neg (by omega), if_neg (by omega), if_neg (by omega)]
    · rw [if_neg (by omega), if_pos rfl, if_pos (by omega), Nat.sub_self, List.getD_cons_zero]
    · have e : k - a = (k - (a + 1)) + 1 := by omega
      rw [if_neg (by omega : k ≠ a), e, List.getD_cons_succ]
      exact if_congr (by omega) rfl rfl

theorem placeImage_memory (a : Nat) (bytes : List Byte) (s : State) (ha : a + bytes.length ≤ 65536) (h : MemoryInv s) :
    MemoryInv (placeImage a bytes s) := by
  induction bytes generalizing a s with
  | nil => exact h
  | cons b rest ih =>
    rw [List.length_cons] at ha
    exact ih (a + 1) _ (by omega) (setRaw_memory _ _ (by omega) h)

/-- One value stored at many addresses. -/
theorem foldl_setRaw_raw (ps : List (Nat × Byte)) (c : Byte) (s : State) (k : Nat) :
    (ps.foldl (fun s p => s.setRaw p.1 c) s).raw k = if k ∈ ps.map Prod.fst then c else s.raw k := by
  induction ps generalizing s with
  | nil => rfl
  | cons p ps ih =>
    rw [List.foldl_cons, ih, State.raw_setRaw]
    by_cases hk : k ∈ ps.map Prod.fst <;> by_cases hp : k = p.1 <;> simp [hk, hp]

theorem foldl_setRaw_eq (ps : List (Nat × Byte)) (c : Byte) (s : State) :
    ps.foldl (fun s p => s.setRaw p.1 c) s = { s with mem := (ps.foldl (fun s p => s.setRaw p.1 c) s).mem } := by
  induction ps generalizing s with
  | nil => rfl
  | cons p ps ih => exact ih (s.setRaw p.1 c)

theorem blankMemory_eq (s : State) : blankMemory s = { s with mem := (blankMemory s).mem } := foldl_setRaw_eq _ _ s

theorem blankMemory_reset_raw (k : Nat) : (blankMemory State.reset).raw k = 0 := by
  unfold blankMemory
  rw [foldl_setRaw_raw, reset_raw]
  split
  · rfl
  · next h => exact initial_of_unset (.inr fun p hp e => h (e ▸ List.mem_map_of_mem hp))

theorem blankMemory_memory {s : State} (h : MemoryInv s) : MemoryInv (blankMemory s) := by
  unfold blankMemory
  refine List.foldlRecOn _ _ h (fun t ht p hp => setRaw_memory _ _ ?_ ht)
  revert p
  decide

/-! ## Before the table -/

/-- What steps (1) to (3) of R460 change of the state with nothing placed. -/
theorem beforeTable_eq (rom : List Byte) :
    beforeTable rom =
      { State.reset with
        mem := (beforeTable rom).mem, mode := .hblank, nextEvent := 0, lcdOn := false, bgOn := false, tileUnsigned := false
        palBg := palDecode 0, palObj0 := palDecode 0, palObj1 := palDecode 0 } := by
  unfold beforeTable
  rw [placeImage_eq, blankMemory_eq]
  rfl

theorem beforeTable_raw (rom : List Byte) (k : Nat) :
    (beforeTable rom).raw k = if k = 0xFF00 then 0xFF else if k < rom.length then rom.getD k 0 else 0 := by
  have h : (beforeTable rom).raw k = ((placeImage 0 rom (blankMemory State.reset)).setRaw 0xFF00 0xFF).raw k := rfl
  rw [h, State.raw_setRaw, placeImage_raw, blankMemory_reset_raw]
  simp

/-- With an image that ends below 0x8000 every byte above it but P1 is still blank. -/
theorem beforeTable_raw_high {rom : List Byte} (hrom : rom.length ≤ 0x8000) {k : Nat} (hk : 0x8000 ≤ k) (hp1 : k ≠ 0xFF00) :
    (beforeTable rom).raw k = 0 := by
  rw [beforeTable_raw, if_neg hp1, if_neg (by omega)]

/-- The invariants that say what the picture unit has decoded, with what they rest on. -/
structure DecodedInv (s : State) : Prop where
  memory : MemoryInv s
  shape : ShapeInv s
  lcdc : LcdcInv s
  caches : CacheInv s

theorem StoreEffect.decodedInv {k : Nat} {v : Byte} {s t : State} (hk : k < 65536) (he : StoreEffect k v s t)
    (h : DecodedInv s) : DecodedInv t :=
  ⟨storeEffect_memory hk he h.memory, storeEffect_shape he h.shape, storeEffect_lcdc he h.lcdc,
    storeEffect_caches he h.shape h.caches⟩

theorem write_decodedInv (ea : Word) (v : Byte) (s : State) (h : DecodedInv s) : DecodedInv (write ea v s) :=
  write_induct DecodedInv (fun k v s hs => (writeNoDma_effect k v s).decodedInv k.isLt hs) ea v s h

theorem beforeTable_decodedInv {rom : List Byte} (hrom : rom.length ≤ 0x8000) : DecodedInv (beforeTable rom) := by
  have e := beforeTable_eq rom
  have hraw : ∀ k, 0x8000 ≤ k → k ≠ 0xFF00 → (beforeTable rom).raw k = 0 := fun k h h' => beforeTable_raw_high hrom h h'
  have hlow : ∀ k, 0x8000 ≤ k → k < 0xFF00 → (beforeTable rom).raw k = State.reset.raw k := fun k h h' => by
    rw [hraw k h (by omega), reset_raw_low h']
  have htiles : (beforeTable rom).tiles = State.reset.tiles := by rw [e]
  have hsprites : (beforeTable rom).sprites = State.reset.sprites := by rw [e]
  refine ⟨?_, reset_shapeInv.congr htiles hsprites (by rw [e]), ?_, ?_⟩
  · exact setRaw_memory (s := placeImage 0 rom (blankMemory State.reset)) _ _ (by omega)
      (placeImage_memory 0 rom _ (by omega) (blankMemory_memory Memory.wf_reset))
  · constructor <;> rw [hraw _ (by omega) (by omega)] <;> rw [e] <;> rfl
  · refine ⟨reset_cacheInv.tiles_congr htiles fun x hx => hlow x (by omega) (by omega),
      reset_cacheInv.sprites_congr hsprites fun x hx => hlow x (by omega) (by omega), ?_, ?_, ?_⟩ <;>
    · rw [hraw _ (by omega) (by omega), e]

end Sys2Proof.Machine
end

section
/-! The power-on table through `Write` (R464), entry by entry. -/

namespace Sys2Proof.Machine

/-! ## One entry -/

/-- An entry of an I/O register whose store keeps the byte as given: not P1, STAT, LY or the DMA register. -/
def IoEntry (p : Nat × Byte) : Prop :=
  0xFEA0 ≤ p.1 ∧ p.1 < 65536 ∧ p.1 ≠ 0xFF00 ∧ p.1 ≠ 0xFF41 ∧ p.1 ≠ 0xFF44 ∧ p.1 ≠ 0xFF46

theorem IoEntry.toNat {p : Nat × Byte} (h : IoEntry p) : (BitVec.ofNat 16 p.1).toNat = p.1 := by
  obtain ⟨-, hlt, -⟩ := h
  rw [BitVec.toNat_ofNat]
  exact Nat.mod_eq_of_lt hlt

theorem IoEntry.effect {p : Nat × Byte} (h : IoEntry p) (s : State) :
    StoreEffect p.1 p.2 s (write (BitVec.ofNat 16 p.1) p.2 s) := by
  have hdma : BitVec.ofNat 16 p.1 ≠ 0xFF46 := fun e => by
    obtain ⟨-, -, -, -, -, h46⟩ := id h
    exact h46 (h.toNat.symm.trans (congrArg BitVec.toNat e))
  have he := writeNoDma_effect (BitVec.ofNat 16 p.1) p.2 s
  rwa [h.toNat, ← write_eq_writeNoDma _ _ _ hdma] at he

/-- The byte of an entry is stored as given. -/
theorem IoEntry.raw_self {p : Nat × Byte} (h : IoEntry p) (s : State) :
    (write (BitVec.ofNat 16 p.1) p.2 s).raw p.1 = p.2 := by
  obtain ⟨hlow, -, h00, h41, h44, -⟩ := id h
  have he := h.effect s
  generalize write (BitVec.ofNat 16 p.1) p.2 s = t at he
  have self : (s.setRaw p.1 p.2).raw p.1 = p.2 := (State.raw_setRaw s _ _ _).trans (if_pos rfl)
  cases he with
  | dropped h => omega
  | tile h h' => omega
  | oam h h' => omega
  | p1 h => exact absurd h h00
  | stat h => exact absurd h h41
  | lcdc h => rw [h] at self ⊢; rw [lcdcDecode_raw _ _ (by omega), self]
  | lyc h => rw [h] at self ⊢; rw [statRefresh_raw, if_neg (by omega), self]
  | bgp h | obp0 h | obp1 h => rw [h] at self ⊢; exact self
  | plain => exact self

theorem IoEntry.raw_other {p : Nat × Byte} (h : IoEntry p) (s : State) {k : Nat} (hk : k ≠ p.1)
    (hstat : k = 0xFF41 → p.1 ≠ 0xFF40 ∧ p.1 ≠ 0xFF45) : (write (BitVec.ofNat 16 p.1) p.2 s).raw k = s.raw k := by
  obtain ⟨-, -, -, -, -, h46⟩ := id h
  exact write_raw_of_ne _ _ _ _ (by rwa [h.toNat]) (by rwa [h.toNat]) (by rw [h.toNat]; exact fun e => absurd e h46)

/-- A refresh leaves STAT's enable bits (R62). -/
theorem stat_privWrite_enables (old v : Byte) : maskedWrite old v 0x07 &&& 0x78 = old &&& 0x78 := by
  unfold maskedWrite
  apply BitVec.eq_of_getLsbD_eq
  intro i hi
  interval_cases i <;> simp

theorem statRefresh_enables (s : State) : (statRefresh s).raw 0xFF41 &&& 0x78 = s.raw 0xFF41 &&& 0x78 := by
  rw [statRefresh_raw, if_pos rfl, stat_privWrite_enables]

/-- The two states agree on the tile cache, the sprite table and STAT's enable bits. -/
structure SameVideo (s t : State) : Prop where
  tiles : t.tiles = s.tiles
  sprites : t.sprites = s.sprites
  enables : t.raw 0xFF41 &&& 0x78 = s.raw 0xFF41 &&& 0x78

theorem SameVideo.trans {s t u : State} (h : SameVideo s t) (k : SameVideo t u) : SameVideo s u :=
  ⟨k.tiles.trans h.tiles, k.sprites.trans h.sprites, k.enables.trans h.enables⟩

theorem lcdcDecode_sameVideo (s : State) : SameVideo s (lcdcDecode s) := by
  rcases lcdcDecode_cases s with ⟨-, -, e⟩ | ⟨-, -, e⟩ | ⟨-, e⟩ <;> rw [e]
  · exact ⟨rfl, rfl, statRefresh_enables _⟩
  · exact ⟨rfl, rfl, statRefresh_enables _⟩
  · exact ⟨rfl, rfl, rfl⟩

theorem IoEntry.sameVideo {p : Nat × Byte} (h : IoEntry p) (s : State) :
    SameVideo s (write (BitVec.ofNat 16 p.1) p.2 s) := by
  obtain ⟨hlow, -, -, h41, -, -⟩ := id h
  have he := h.effect s
  generalize write (BitVec.ofNat 16 p.1) p.2 s = t at he
  have byte : SameVideo s (s.setRaw p.1 p.2) :=
    ⟨rfl, rfl, congrArg (· &&& 0x78) ((State.raw_setRaw s _ _ _).trans (if_neg (Ne.symm h41)))⟩
  cases he with
  | dropped h => exact ⟨rfl, rfl, rfl⟩
  | tile h h' => omega
  | oam h h' => omega
  | p1 h => exact ⟨rfl, rfl, congrArg (· &&& 0x78) ((State.raw_setRaw s _ _ _).trans (if_neg (by omega)))⟩
  | stat h => exact absurd h h41
  | lcdc h => rw [h] at byte; exact byte.trans (lcdcDecode_sameVideo _)
  | lyc h => rw [h] at byte; exact byte.trans ⟨rfl, rfl, statRefresh_enables _⟩
  | bgp h | obp0 h | obp1 h => rw [h] at byte; exact byte.trans ⟨rfl, rfl, rfl⟩
  | plain => exact byte

/-! ## Many entries -/

/-- A list of entries, each by `Write`. -/
def writeAll (ps : List (Nat × Byte)) (s : State) : State := ps.foldl (fun s p => write (BitVec.ofNat 16 p.1) p.2 s) s

/-- What every store of the list keeps, the list keeps. -/
theorem writeAll_induct (P : State → Prop) (ps : List (Nat × Byte))
    (h : ∀ p ∈ ps, ∀ s, P s → P (write (BitVec.ofNat 16 p.1) p.2 s)) (s : State) (hs : P s) : P (writeAll ps s) :=
  List.foldlRecOn _ _ hs fun t ht p hp => h p hp t ht

theorem writeAll_core (ps : List (Nat × Byte)) (s : State) : SameCore s (writeAll ps s) :=
  writeAll_induct (SameCore s) ps (fun _ _ _ ht => ht.trans (write_core _ _ _)) s (.refl s)

theorem writeAll_decodedInv (ps : List (Nat × Byte)) (s : State) (h : DecodedInv s) : DecodedInv (writeAll ps s) :=
  writeAll_induct DecodedInv ps (fun _ _ t ht => write_decodedInv _ _ t ht) s h

section
variable {ps : List (Nat × Byte)} (hps : ∀ p ∈ ps, IoEntry p)
include hps

theorem writeAll_sameVideo (s : State) : SameVideo s (writeAll ps s) :=
  writeAll_induct (SameVideo s) ps (fun p hp t ht => ht.trans ((hps p hp).sameVideo t)) s ⟨rfl, rfl, rfl⟩

theorem writeAll_statInv (s : State) (h : StatInv s) : StatInv (writeAll ps s) :=
  writeAll_induct StatInv ps (fun p hp t ht => storeEffect_stat ((hps p hp).effect t) ht) s h

theorem writeAll_sameScan (hlcdc : ∀ p ∈ ps, p.1 ≠ 0xFF40) (s : State) : SameScan s (writeAll ps s) :=
  writeAll_induct (SameScan s) ps (fun p hp t ht => ht.trans (((hps p hp).effect t).sameScan (hlcdc p hp))) s (.refl s)

theorem writeAll_raw_other {k : Nat} (hk : ∀ p ∈ ps, k ≠ p.1)
    (hstat : k = 0xFF41 → ∀ p ∈ ps, p.1 ≠ 0xFF40 ∧ p.1 ≠ 0xFF45) (s : State) : (writeAll ps s).raw k = s.raw k :=
  writeAll_induct (fun t => t.raw k = s.raw k) ps
    (fun p hp t ht => ((hps p hp).raw_other t (hk p hp) fun e => hstat e p hp).trans ht) s rfl

end

/-- Where no address comes twice, every byte of the list is stored. -/
theorem writeAll_raw_self {ps : List (Nat × Byte)} (hps : ∀ p ∈ ps, IoEntry p) (hnd : (ps.map Prod.fst).Nodup) (s : State) :
    ∀ p ∈ ps, (writeAll ps s).raw p.1 = p.2 := by
  induction ps generalizing s with
  | nil => exact fun p hp => nomatch hp
  | cons q qs ih =>
    rw [List.map_cons, List.nodup_cons] at hnd
    have hqs : ∀ p ∈ qs, IoEntry p := fun p hp => hps p (List.mem_cons_of_mem q hp)
    have hq : IoEntry q := hps q List.mem_cons_self
    intro p hp
    obtain rfl | hp := List.mem_cons.mp hp
    · obtain ⟨-, -, -, h41, -⟩ := id hq
      have hfresh : ∀ r ∈ qs, p.1 ≠ r.1 := fun r hr e => hnd.1 (e ▸ List.mem_map_of_mem hr)
      exact (writeAll_raw_other hqs hfresh (fun e => absurd e h41) _).trans (hq.raw_self s)
    · exact ih hqs hnd.2 _ p hp

/-! ## The whole table -/

/-- The table up to LCDC, LCDC, and the rest. -/
theorem writeTable_eq (s : State) :
    writeTable s =
      writeAll (Config.powerOnTable.drop 22) (write 0xFF40 0x91 (writeAll (Config.powerOnTable.take 21) s)) := rfl

theorem powerOnTable_io : ∀ p ∈ Config.powerOnTable, IoEntry p := by unfold IoEntry; decide

theorem powerOnTable_nodup : (Config.powerOnTable.map Prod.fst).Nodup := by decide

/-- The enable edge (R341). -/
theorem write_lcdc_enable (v : Byte) (s : State) (hoff : s.lcdOn = false) (hv : v.getLsbD 7 = true) :
    write 0xFF40 v s =
      statRefresh
        { lcdcFlags (s.setRaw 0xFF40 v) with scanline := 0, mode := .spriteSearch, nextEvent := s.elapsed + 80 } := by
  have hon : (lcdcFlags (s.setRaw 0xFF40 v)).lcdOn = true := by
    show ((s.setRaw 0xFF40 v).raw 0xFF40).getLsbD 7 = true
    simpa using hv
  have hw : write 0xFF40 v s = lcdcDecode (s.setRaw 0xFF40 v) := rfl
  rw [hw]
  rcases lcdcDecode_cases (s.setRaw 0xFF40 v) with ⟨-, -, e⟩ | ⟨h, -, -⟩ | ⟨h, -⟩
  · exact e
  · exact absurd (h.symm.trans hoff) nofun
  · exact absurd (hon.symm.trans (h.trans hoff)) nofun

end Sys2Proof.Machine
end

section
/-! The state after power-on (R52), that it is coherent, and that every reachable state is. -/

namespace Sys2Proof.Machine

/-! ## Memory after power-on -/

theorem beforeTable_core (rom : List Byte) : SameCore State.reset (beforeTable rom) := by
  rw [beforeTable_eq]
  constructor <;> rfl

theorem powerOn_core (rom : List Byte) : SameCore State.reset (writeTable (beforeTable rom)) :=
  (beforeTable_core rom).trans (writeAll_core Config.powerOnTable _)

/-- The bytes of the table (R464). -/
theorem powerOn_raw_table (rom : List Byte) : ∀ p ∈ Config.powerOnTable, (writeTable (beforeTable rom)).raw p.1 = p.2 :=
  writeAll_raw_self powerOnTable_io powerOnTable_nodup _

/-- Every other byte but STAT is as the image and the blank memory left it. -/
theorem powerOn_raw_other (rom : List Byte) {k : Nat} (hk : ∀ p ∈ Config.powerOnTable, k ≠ p.1) (h41 : k ≠ 0xFF41) :
    (writeTable (beforeTable rom)).raw k = (beforeTable rom).raw k :=
  writeAll_raw_other powerOnTable_io hk (fun e => absurd e h41) _

theorem powerOn_decodedInv {rom : List Byte} (hrom : rom.length ≤ 0x8000) : DecodedInv (writeTable (beforeTable rom)) :=
  writeAll_decodedInv Config.powerOnTable _ (beforeTable_decodedInv hrom)

/-! ## The scanline machine and STAT -/

/-- LCDC is the one entry that moves the scanline machine: its edge enables it, and STAT is current from then on. -/
theorem powerOn_enabled {rom : List Byte} (hrom : rom.length ≤ 0x8000) :
    (writeTable (beforeTable rom)).mode = .spriteSearch ∧ (writeTable (beforeTable rom)).scanline = 0 ∧
      (writeTable (beforeTable rom)).nextEvent = 80 ∧ StatInv (writeTable (beforeTable rom)) := by
  have hfirst : ∀ p ∈ Config.powerOnTable.take 21, IoEntry p := fun p hp => powerOnTable_io p (List.mem_of_mem_take hp)
  have hlast : ∀ p ∈ Config.powerOnTable.drop 22, IoEntry p := fun p hp => powerOnTable_io p (List.mem_of_mem_drop hp)
  have hoff := (writeAll_sameScan hfirst (by decide) (beforeTable rom)).lcdOn
  have h41 := writeAll_raw_other hfirst (k := 0xFF41) (by decide) (fun _ => by decide) (beforeTable rom)
  have helapsed := ((beforeTable_core rom).trans (writeAll_core (Config.powerOnTable.take 21) _)).elapsed
  rw [writeTable_eq]
  generalize writeAll (Config.powerOnTable.take 21) (beforeTable rom) = s at hoff h41 helapsed ⊢
  have hedge := write_lcdc_enable 0x91 s (hoff.trans (by rw [beforeTable_eq])) rfl
  have hscan := writeAll_sameScan hlast (by decide) (write 0xFF40 0x91 s)
  refine ⟨hscan.mode.trans (by rw [hedge]; rfl), hscan.scanline.trans (by rw [hedge]; rfl),
    hscan.nextEvent.trans (by rw [hedge]; exact congrArg (· + 80) helapsed), writeAll_statInv hlast _ ?_⟩
  have hclear : (s.setRaw 0xFF40 0x91).raw 0xFF41 = 0 := by
    rw [State.raw_setRaw, if_neg (by omega), h41, beforeTable_raw_high hrom (by omega) (by omega)]
  have hbit7 : ∀ t : State, t.mem = (s.setRaw 0xFF40 0x91).mem → (t.raw 0xFF41).getLsbD 7 = false := fun t ht => by
    rw [State.raw, ht, ← State.raw, hclear]
    rfl
  rw [hedge]
  exact statRefresh_statInv _ (hbit7 _ rfl)

/-- The picture unit after power-on is that of the state with nothing placed. -/
theorem powerOn_ppu {rom : List Byte} (hrom : rom.length ≤ 0x8000) : SamePpu State.reset (writeTable (beforeTable rom)) := by
  obtain ⟨hmode, hline, hnext, -⟩ := powerOn_enabled hrom
  obtain ⟨-, -, hlcdc, hcaches⟩ := powerOn_decodedInv hrom
  have hvideo : SameVideo (beforeTable rom) (writeTable (beforeTable rom)) := writeAll_sameVideo powerOnTable_io _
  have h40 := powerOn_raw_table rom (0xFF40, 0x91) (by decide)
  have h47 := powerOn_raw_table rom (0xFF47, 0xFC) (by decide)
  have h48 := powerOn_raw_table rom (0xFF48, 0xFF) (by decide)
  have h49 := powerOn_raw_table rom (0xFF49, 0xFF) (by decide)
  exact {
    lcdOn := hlcdc.lcdOn.trans (by rw [h40]; rfl)
    bgOn := hlcdc.bgOn.trans (by rw [h40]; rfl)
    spriteOn := hlcdc.spriteOn.trans (by rw [h40]; rfl)
    winOn := hlcdc.winOn.trans (by rw [h40]; rfl)
    tileUnsigned := hlcdc.tileUnsigned.trans (by rw [h40]; rfl)
    bgMap := hlcdc.bgMap.trans (by rw [h40]; rfl)
    winMap := hlcdc.winMap.trans (by rw [h40]; rfl)
    mode := hmode
    scanline := hline
    nextEvent := hnext
    tiles := hvideo.tiles.trans (by rw [beforeTable_eq])
    sprites := hvideo.sprites.trans (by rw [beforeTable_eq])
    palBg := hcaches.palBg.trans (by rw [h47]; rfl)
    palObj0 := hcaches.palObj0.trans (by rw [h48]; rfl)
    palObj1 := hcaches.palObj1.trans (by rw [h49]; rfl) }

/-- STAT after power-on: the LCD on in sprite search, the scanline equal to LYC, no request enabled (R71). -/
theorem powerOn_stat {rom : List Byte} (hrom : rom.length ≤ 0x8000) : (writeTable (beforeTable rom)).raw 0xFF41 = 0x06 := by
  obtain ⟨hmode, hline, -, hstat⟩ := powerOn_enabled hrom
  have hvideo : SameVideo (beforeTable rom) (writeTable (beforeTable rom)) := writeAll_sameVideo powerOnTable_io _
  have h45 := powerOn_raw_table rom (0xFF45, 0x00) (by decide)
  have hlcd : (writeTable (beforeTable rom)).lcdOn = true := (powerOn_ppu hrom).lcdOn
  have henables := hvideo.enables
  rw [beforeTable_raw_high hrom (by omega) (by omega)] at henables
  unfold StatInv State.statBits State.coincidence State.statMode at hstat
  rw [hmode, hline, h45, hlcd] at hstat
  generalize (writeTable (beforeTable rom)).raw 0xFF41 = x at henables hstat
  calc x = x &&& (0x87 ||| 0x78) := BitVec.and_allOnes.symm
    _ = (x &&& 0x87) ||| (x &&& 0x78) := BitVec.and_or_distrib_left
    _ = 0x06 := by rw [hstat, henables]; rfl

/-- Every byte after power-on: the image, and above it the byte it has with nothing placed. -/
theorem powerOn_raw {rom : List Byte} (hrom : rom.length ≤ 0x8000) (k : Nat) :
    (writeTable (beforeTable rom)).raw k = if k < rom.length then rom.getD k 0 else State.reset.raw k := by
  by_cases htable : ∃ p ∈ Config.powerOnTable, k = p.1
  · obtain ⟨p, hp, rfl⟩ := htable
    have hreset : ∀ p ∈ Config.powerOnTable, State.reset.raw p.1 = p.2 := by decide
    obtain ⟨hio, -⟩ := powerOnTable_io p hp
    rw [powerOn_raw_table rom p hp, if_neg (by omega), hreset p hp]
  by_cases h41 : k = 0xFF41
  · rw [h41, powerOn_stat hrom, if_neg (by omega)]
    rfl
  have hk : ∀ p ∈ Config.powerOnTable, k ≠ p.1 := fun p hp e => htable ⟨p, hp, e⟩
  rw [powerOn_raw_other rom hk h41, beforeTable_raw]
  by_cases hp1 : k = 0xFF00
  · rw [if_pos hp1, hp1, if_neg (by omega)]
    rfl
  rw [if_neg hp1]
  exact if_congr Iff.rfl rfl (reset_raw_unset hk hp1 h41).symm

/-! ## The state after power-on -/

/-- Two states that agree on everything but memory. -/
theorem State.eq_withMem {s t : State} (h : SameCore s t) (k : SamePpu s t) : t = { s with mem := t.mem } := by
  rw [← h.a, ← h.f, ← h.b, ← h.c, ← h.d, ← h.e, ← h.h, ← h.l, ← h.sp, ← h.pc, ← h.ime, ← h.halted, ← h.status, ← h.elapsed,
    ← h.budget, ← h.ended, ← h.joypad, ← h.lines, ← k.lcdOn, ← k.bgOn, ← k.spriteOn, ← k.winOn, ← k.tileUnsigned, ← k.bgMap,
    ← k.winMap, ← k.mode, ← k.scanline, ← k.nextEvent, ← k.tiles, ← k.sprites, ← k.palBg, ← k.palObj0, ← k.palObj1]

end Sys2Proof.Machine
end

section
/-! The state after power-on as R52 lists it, and every state some run reaches from it. -/

namespace Sys2Proof.Machine

/-! ## Power-on as a whole -/

theorem powerOn_eq_none_iff (rom : List Byte) : State.powerOn rom = none ↔ rom = [] ∨ 0x8000 < rom.length := by
  rw [← List.length_eq_zero_iff]
  unfold State.powerOn romWellFormed
  split
  · next h =>
    simp only [Bool.and_eq_true, decide_eq_true_eq] at h
    simp only [reduceCtorEq, false_iff]
    omega
  · next h =>
    simp only [Bool.and_eq_true, decide_eq_true_eq] at h
    simp only [true_iff]
    omega

/-- Power-on gives the state with nothing placed but for memory, and there the image and above it the same bytes (R460). -/
theorem powerOn_state {rom : List Byte} {s : State} (h : State.powerOn rom = some s) :
    rom.length ≤ 0x8000 ∧ MemoryInv s ∧ s = { State.reset with mem := s.mem } ∧
      ∀ k, s.raw k = if k < rom.length then rom.getD k 0 else State.reset.raw k := by
  unfold State.powerOn at h
  split at h
  · next hok =>
    cases h
    have hrom : rom.length ≤ 0x8000 := by
      simp only [romWellFormed, Bool.and_eq_true, decide_eq_true_eq] at hok
      exact hok.2
    exact ⟨hrom, (powerOn_decodedInv hrom).memory, State.eq_withMem (powerOn_core rom) (powerOn_ppu hrom), powerOn_raw hrom⟩
  · cases h

/-- Settles O56: R52's list is about fields and about bytes above the ROM region, and there power-on gives what `State.reset`
has. -/
theorem powerOnState : Obligations.PowerOnState := by
  unfold Obligations.PowerOnState
  intro listed
  have hlisted : ∀ m : List Host.Cell, (∀ k, 0x8000 ≤ k → Memory.get m k = State.reset.raw k) →
      listed { State.reset with mem := m } := by
    intro m hm
    have hraw : ∀ k, 0x8000 ≤ k → State.raw { State.reset with mem := m } k = State.reset.raw k := hm
    obtain ⟨haf, hbc, hde, hhl⟩ := reset_pairs
    refine ⟨haf, hbc, hde, hhl, rfl, rfl, rfl, rfl, rfl, rfl, rfl, rfl, rfl, fun k h8 hff => ?_, ⟨?_, ?_, ?_, ?_, ?_⟩,
      rfl, rfl, rfl, rfl, rfl, rfl, rfl, rfl, rfl, rfl, rfl, rfl, rfl, rfl, rfl, rfl, rfl⟩
    · rw [hraw k h8, reset_raw_low hff]
    · intro p hp
      have hreset : ∀ p ∈ Config.powerOnTable, 0x8000 ≤ p.1 ∧ State.reset.raw p.1 = p.2 := by decide
      obtain ⟨h8, hv⟩ := hreset p hp
      rw [hraw _ h8, hv]
    · exact hraw _ (by omega)
    · exact hraw _ (by omega)
    · exact hraw _ (by omega)
    · intro k hff h41 htable
      rw [hraw k (by omega), reset_raw_unset htable (by omega) h41]
  refine ⟨powerOn_eq_none_iff, fun rom s h => ?_, hlisted [] fun _ _ => rfl, fun k hk => reset_raw_low (by omega)⟩
  obtain ⟨hrom, -, heq, hraw⟩ := powerOn_state h
  have habove : ∀ k, rom.length ≤ k → s.raw k = State.reset.raw k := fun k hk => by rw [hraw, if_neg (by omega)]
  refine ⟨?_, fun k hk => by rw [hraw, if_pos hk], fun k h0 h8 => ?_, heq, habove⟩
  · rw [heq]
    exact hlisted s.mem fun k hk => habove k (by omega)
  · rw [habove k h0, reset_raw_low (by omega)]

/-! ## Reachable states -/

/-- A memory with the bytes above the ROM region of the state with nothing placed is coherent with its registers. -/
theorem inv_of_reset {s : State} (hmem : MemoryInv s) (heq : s = { State.reset with mem := s.mem })
    (hraw : ∀ k, 0x8000 ≤ k → s.raw k = State.reset.raw k) : Inv s := by
  obtain ⟨hf, -, hshape, hlcdc, hcaches, hstat, hjoy, hline, hclock⟩ := resetCoherent
  generalize s.mem = m at heq
  subst heq
  exact ⟨hf, hmem, hshape.congr rfl rfl rfl, hlcdc.congr (hraw _ (by omega)) rfl rfl rfl rfl rfl rfl rfl,
    hcaches.congr rfl rfl rfl rfl rfl fun x hx => hraw x (by omega),
    hstat.congr (hraw _ (by omega)) (hraw _ (by omega)) rfl rfl rfl, hjoy.congr (hraw _ (by omega)) rfl,
    hline.congr rfl rfl rfl, hclock⟩

/-- Every state some run from power-on reaches is coherent. -/
theorem Reachable.inv {s : State} (h : Reachable s) : Inv s := by
  induction h with
  | powerOn rom s h =>
    obtain ⟨hrom, hmem, heq, hraw⟩ := powerOn_state h
    exact inv_of_reset hmem heq fun k hk => by rw [hraw, if_neg (by omega)]
  | step s t _ h ih => exact step_inv ih h
  | host m s t _ h ih => exact (hostMove_effect h).inv ih

/-- Settles O60: the gate of a step asks for the running status, and no host move writes it. -/
theorem reachableCoherent : Obligations.ReachableCoherent := by
  refine fun s hs => ⟨hs.inv, fun hbad => ⟨fun t h => ?_, fun m t h => ?_⟩⟩
  · obtain ⟨⟨hrun, -, -⟩, -⟩ := step_cases h
    exact hbad hrun
  · exact (hostMove_effect h).frame.1 .status (by simp)

end Sys2Proof.Machine
end

section
/-! Taking an interrupt with the stack outside the I/O page: the line served, its bit, and what the timing check adds to IF
(R33, R412, R413, R420, R421). -/

namespace Sys2Proof.Machine

/-! ## Lines -/

theorem State.pend_bit (s : State) {j : Nat} (hj : j < 5) :
    s.pend.getLsbD j = (s.raw 0xFFFF &&& s.raw 0xFF0F).getLsbD j := by
  unfold State.pend
  interval_cases j <;> simp

/-- The line served is the lowest enabled and pending one (R413). -/
theorem lowestLine_eq {pend : Byte} {line : Nat} (hl : line < 5) (hset : pend.getLsbD line = true)
    (hlow : ∀ j < line, pend.getLsbD j = false) : lowestLine pend = line := by
  unfold lowestLine
  interval_cases line
  · rw [if_pos hset]
  · rw [hlow 0 (by omega), hset]; rfl
  · rw [hlow 0 (by omega), hlow 1 (by omega), hset]; rfl
  · rw [hlow 0 (by omega), hlow 1 (by omega), hlow 2 (by omega), hset]; rfl
  · rw [hlow 0 (by omega), hlow 1 (by omega), hlow 2 (by omega), hlow 3 (by omega)]; rfl

/-- The byte of a line has that one bit. -/
theorem lineBit_getLsbD {n : Nat} (hn : n < 8) (j : Nat) : (lineBit n).getLsbD j = decide (n = j) := by
  have h : lineBit n = BitVec.twoPow 8 n := (BitVec.twoPow_eq 8 n).symm
  rw [h, BitVec.getLsbD_twoPow, decide_eq_true hn, Bool.true_and]

/-! ## What the timing check does to IF -/

/-- From one state to the other no bit of IF is cleared, and of its bits only 0 and 1 can have been set. -/
def IfGrows (s t : State) : Prop :=
  ∀ j, ((s.raw 0xFF0F).getLsbD j = true → (t.raw 0xFF0F).getLsbD j = true) ∧
    (2 ≤ j → (t.raw 0xFF0F).getLsbD j = (s.raw 0xFF0F).getLsbD j)

theorem IfGrows.of_raw {s t : State} (h : t.raw 0xFF0F = s.raw 0xFF0F) : IfGrows s t := by
  intro j
  rw [h]
  exact ⟨id, fun _ => rfl⟩

theorem IfGrows.trans {s t u : State} (h : IfGrows s t) (k : IfGrows t u) : IfGrows s u :=
  fun j => ⟨fun hj => (k j).1 ((h j).1 hj), fun h2 => ((k j).2 h2).trans ((h j).2 h2)⟩

theorem IfGrows.of_mem {s t : State} (h : t.mem = s.mem) : IfGrows s t := .of_raw (by rw [State.raw, h, ← State.raw])

/-- A request of line 0 or 1, the two of the picture unit (R410). -/
theorem IfGrows.requestIf {s t : State} {b : Bool} {n : Nat} (h : IfGrows s t) (hn : n < 2) :
    IfGrows s (requestIf b n t) := by
  refine h.trans fun j => ?_
  rw [requestIf_raw_if]
  split
  · rw [BitVec.getLsbD_or, lineBit_getLsbD (by omega)]
    exact ⟨fun h => by rw [h, Bool.true_or], fun h2 => by rw [decide_eq_false (by omega), Bool.or_false]⟩
  · exact ⟨id, fun _ => rfl⟩

theorem hblankEnd_ifGrows (s : State) : IfGrows s (hblankEnd s) := by
  unfold hblankEnd
  dsimp only
  refine .requestIf ?_ (by omega)
  split
  · exact .requestIf (.of_mem rfl) (by omega)
  · exact .requestIf (b := true) (.of_mem rfl) (by omega)

theorem vblankLineEnd_ifGrows (s : State) : IfGrows s (vblankLineEnd s) := by
  unfold vblankLineEnd
  refine .requestIf ?_ (by omega)
  split
  · exact .of_mem rfl
  · exact .requestIf (.of_mem rfl) (by omega)

theorem ppuTransition_ifGrows (s : State) : IfGrows s (ppuTransition s) := by
  unfold ppuTransition
  split
  · exact vblankLineEnd_ifGrows s
  · split
    · exact .requestIf (.of_mem rfl) (by omega)
    · exact .of_mem rfl
    · exact hblankEnd_ifGrows s

theorem ppuTimingCheck_ifGrows (s : State) : IfGrows s (ppuTimingCheck s) := by
  rcases ppuTimingCheck_cases s with ⟨-, e⟩ | ⟨-, -, e⟩ <;> rw [e]
  · exact .of_raw rfl
  · exact (ppuTransition_ifGrows s).trans (.of_raw (by rw [statRefresh_raw, if_neg (by omega)]))

/-! ## The dispatch -/

/-- A push onto a stack outside the I/O page reaches no byte of it, nor the scanline machine. -/
theorem push_outside_io (v : Word) (s : State) (h : 2 ≤ s.sp.toNat) (h' : s.sp.toNat ≤ 0xFE00) :
    (∀ k, 0xFE00 ≤ k → (push v s).raw k = s.raw k) ∧ SameScan s (push v s) := by
  have hlo : (s.sp - 2).toNat = s.sp.toNat - 2 := by bv_omega
  have hhi : (s.sp - 2 + 1).toNat = s.sp.toNat - 1 := by bv_omega
  refine ⟨fun k hk => ?_, ?_⟩
  · exact (write_raw_of_ne _ _ _ k (by omega) (by omega) (by omega)).trans
      (write_raw_of_ne _ _ { s with sp := s.sp - 2 } k (by omega) (by omega) (by omega))
  · have hw : SameScan { s with sp := s.sp - 2 } (push v s) := write16_sameScan _ _ _ (by bv_omega) (by bv_omega)
    exact ⟨hw.lcdOn, hw.mode, hw.scanline, hw.nextEvent⟩

theorem dispatch_pc (s : State) : (dispatch s).pc = vectorOf (lowestLine s.pend) := rfl
theorem dispatch_ime (s : State) : (dispatch s).ime = false := rfl

/-- With the stack outside the I/O page a dispatch clears the bit of its line and no other of IF (R420). -/
theorem dispatch_outside_io (s : State) (h : 2 ≤ s.sp.toNat) (h' : s.sp.toNat ≤ 0xFE00) :
    (dispatch s).raw 0xFF0F = s.raw 0xFF0F &&& ~~~lineBit (lowestLine s.pend) ∧ SameScan s (dispatch s) := by
  obtain ⟨hraw, hscan⟩ := push_outside_io s.pc s h h'
  rw [dispatch_eq, ← hraw 0xFF0F (by omega)]
  generalize push s.pc s = p at hscan ⊢
  refine ⟨?_, hscan.lcdOn, hscan.mode, hscan.scanline, hscan.nextEvent⟩
  rw [stepClock_raw, clearRequest, State.raw_setRaw, if_pos rfl]
  rfl

theorem dispatch_elapsed (s : State) : (dispatch s).elapsed = s.elapsed + 16 := by
  obtain ⟨u, he, -, -, hd⟩ := dispatch_effect s
  rw [hd, stepClock_elapsed, he.sameHost.elapsed]

/-- The latch is empty while the master enable is clear (R33, R421). -/
theorem State.latch_of_ime {s : State} (h : s.ime = false) : s.latch = none := by
  unfold State.latch
  rw [h]
  rfl

/-- Settles O11: the push cannot reach IF, so only the line's own bit goes, and the timing check can only set
bits 0 and 1. -/
theorem dispatchServesLowest : Obligations.DispatchServesLowest := by
  intro s t line hgate hime hl hset hlow h' h hstep
  have hbit : s.pend.getLsbD line = true := (s.pend_bit hl).trans hset
  have hline : lowestLine s.pend = line :=
    lowestLine_eq hl hbit fun j hj => (s.pend_bit (by omega)).trans (hlow j hj)
  have hpend : (s.pend == 0) = false := by
    rw [beq_eq_false_iff_ne]
    intro e
    rw [e] at hbit
    simp at hbit
  have ht : t = ppuTimingCheck (dispatch (wake s)) := by
    rw [step_open hgate, openStep, State.idles, State.dispatches, bne, hpend, hime] at hstep
    simpa using hstep.symm
  obtain ⟨hif, hscan⟩ := dispatch_outside_io (wake s) h h'
  have hcleared : ∀ j < 8,
      ((dispatch (wake s)).raw 0xFF0F).getLsbD j = ((s.raw 0xFF0F).getLsbD j && !decide (line = j)) := by
    intro j hj
    have e : lowestLine (wake s).pend = line := hline
    rw [hif, e, BitVec.getLsbD_and, BitVec.getLsbD_not, decide_eq_true hj, Bool.true_and, lineBit_getLsbD (by omega)]
    rfl
  have hline_cleared : ((dispatch (wake s)).raw 0xFF0F).getLsbD line = false := by
    rw [hcleared line (by omega), decide_eq_true rfl, Bool.not_true, Bool.and_false]
  have htime : t.ime = false := by rw [ht, (ppuTimingCheck_scan _).ime, dispatch_ime]
  refine ⟨?_, ?_, htime, State.latch_of_ime htime, fun j hj hne hj1 => ?_, fun hagain => ?_⟩
  · rw [State.latch, hime, bne, hpend, hline]
    rfl
  · rw [ht, (ppuTimingCheck_scan _).pc, dispatch_pc]
    exact congrArg vectorOf hline
  · rw [ht]
    refine (ppuTimingCheck_ifGrows _ j).1 ?_
    rw [hcleared j hj, hj1, decide_eq_false (Ne.symm hne)]
    rfl
  · rw [ht] at hagain
    have hsmall : line ≤ 1 := by
      by_contra hbig
      rw [(ppuTimingCheck_ifGrows _ line).2 (by omega), hline_cleared] at hagain
      exact absurd hagain nofun
    rcases ppuTimingCheck_cases (dispatch (wake s)) with ⟨-, e⟩ | ⟨hon, hdue, -⟩
    · rw [e, hline_cleared] at hagain
      exact absurd hagain nofun
    · rw [hscan.nextEvent, dispatch_elapsed] at hdue
      exact ⟨hsmall, hscan.lcdOn.symm.trans hon, hdue⟩

end Sys2Proof.Machine
end

section
/-! What one store does address by address, where it does no more than store a byte, or less: the addresses without a
handler, STAT and P1 (R61, R63, R65, R71, R111). -/

namespace Sys2Proof.Machine

/-! ## Addresses without a handler -/

/-- A store at an address without a handler is the byte and nothing else (R63, R101, R111). -/
theorem write_unintercepted (ea : Word) (v : Byte) (s : State) (h : uninterceptedAddr ea = true) :
    write ea v s = s.setRaw ea.toNat v := by
  simp only [uninterceptedAddr, Bool.or_eq_true, Bool.and_eq_true, decide_eq_true_eq] at h
  rw [write_eq_writeNoDma ea v s (by bv_omega)]
  have he := writeNoDma_effect ea v s
  generalize writeNoDma ea v s = t at he ⊢
  cases he with
  | plain => rfl
  | tile h1 h2 | oam h1 h2 => exact absurd h (by bv_omega)
  | dropped h1 | p1 h1 | lcdc h1 | stat h1 | lyc h1 | bgp h1 | obp0 h1 | obp1 h1 => exact absurd h (by bv_omega)

/-! ## STAT -/

/-- A store to STAT takes bits 6:3 and keeps the others (R61, R71). -/
theorem write_stat (v : Byte) (s : State) :
    write 0xFF41 v s = s.setRaw 0xFF41 (maskedWrite (s.raw 0xFF41) v 0x78) := rfl

/-! ## P1 -/

/-- A store to P1 selects by its bits 5:4 and resolves the keys for that selection (R65). -/
theorem write_p1 (v : Byte) (s : State) :
    write 0xFF00 v s = s.setRaw 0xFF00 (0xC0 ||| (v &&& 0x30) ||| s.keysFor (v &&& 0x30)) := rfl

theorem and_0x0F_eq_low_nibble (x : Byte) : x &&& 0x0F#8 = (x.extractLsb' 0 4).setWidth 8 := by
  apply BitVec.eq_of_getLsbD_eq
  intro i hi
  interval_cases i <;> simp

theorem ushiftRight_four_eq_high_nibble (x : Byte) : x >>> (4 : Nat) = (x.extractLsb' 4 4).setWidth 8 := by
  apply BitVec.eq_of_getLsbD_eq
  intro i hi
  interval_cases i <;> simp

/-- The keys for a selection are the AND of two nibbles, all ones for a group not selected (R65). -/
theorem State.keysFor_eq_nibbles (s : State) (sel : Byte) :
    s.keysFor sel =
      ((if sel.getLsbD 4 then 0xF else s.joypad.extractLsb' 0 4) &&&
        (if sel.getLsbD 5 then 0xF else s.joypad.extractLsb' 4 4) : BitVec 4).setWidth 8 := by
  have ones : 0x0F#8 = (0xF : BitVec 4).setWidth 8 := rfl
  rw [State.keysFor, and_0x0F_eq_low_nibble, ushiftRight_four_eq_high_nibble, ones, BitVec.setWidth_and,
    apply_ite (BitVec.setWidth 8), apply_ite (BitVec.setWidth 8)]

/-- Only the two select bits of a stored byte matter to the keys. -/
theorem State.keysFor_and_0x30 (s : State) (v : Byte) : s.keysFor (v &&& 0x30) = s.keysFor v := by
  simp [State.keysFor]

/-! ## By region -/

/-- Settles O45, region by region: the dropped stores, the addresses without a handler, STAT and P1. -/
theorem writeByRegion : Obligations.WriteByRegion := by
  intro k v s
  refine ⟨fun hrom => write_dropped k v s (.inl hrom), write_unintercepted k v s, write_dropped 0xFF44 v s (.inr rfl),
    write_stat v s, ?_⟩
  rw [write_p1, State.keysFor_and_0x30, State.keysFor_eq_nibbles]

end Sys2Proof.Machine
end

section
/-! What no step and no host move can reach: the bytes of the ROM region (R111, R122, R462). -/

namespace Sys2Proof.Machine

/-- The two states agree on every byte of the ROM region. -/
def SameRom (s t : State) : Prop := ∀ k < 0x8000, t.raw k = s.raw k

theorem SameRom.refl (s : State) : SameRom s s := fun _ _ => rfl

theorem SameRom.trans {s t u : State} (h : SameRom s t) (k : SameRom t u) : SameRom s u :=
  fun x hx => (k x hx).trans (h x hx)

/-- A store below 0x8000 is dropped, and one above reaches no byte below: the DMA copies into OAM only. -/
theorem write_sameRom (ea : Word) (v : Byte) (s : State) : SameRom s (write ea v s) := by
  intro x hx
  by_cases hrom : ea < 0x8000
  · rw [write_dropped ea v s (.inl hrom)]
  · exact write_raw_of_ne ea v s x (by bv_omega) (by omega) (fun _ => by omega)

theorem Effect.sameRom {s t : State} (h : Effect s t) : SameRom s t :=
  h.induct (SameRom s) (fun _ _ e hu => hu.trans fun x _ => e.raw x) (fun k v u hu => hu.trans (write_sameRom k v u))
    (.refl s)

theorem afterInstr_sameRom (s : State) : SameRom s (afterInstr s) := by
  unfold afterInstr
  split
  · exact fun x hx => ppuTimingCheck_raw s x (by omega) (by omega)
  · exact .refl s

/-- Setting the joypad writes P1, and IF by its request (R441). -/
theorem setJoypad_sameRom (new : Byte) (s : State) : SameRom s (setJoypad new s) := by
  intro x hx
  unfold setJoypad resolveKeys
  rw [requestIf_raw _ _ _ _ (by omega), State.raw_setRaw, if_neg (by omega)]
  rfl

theorem HostEffect.sameRom {s t : State} (h : HostEffect s t) : SameRom s t := by
  cases h with
  | advanceBudget b => exact .refl s
  | endRun => exact .refl s
  | setJoypad new => exact setJoypad_sameRom new s
  | poke k v => exact write_sameRom k v s

/-- Settles O16: a step is stores, a charge and the timing check, a host move one of its four kinds. -/
theorem romNeverChanges : Obligations.RomNeverChanges := by
  refine ⟨fun s t h => ?_, fun s t m h => (hostMove_effect h).sameRom⟩
  obtain ⟨u, c, he, -, -, rfl⟩ := step_effect h
  exact he.sameRom.trans (afterInstr_sameRom (stepClock c u))

end Sys2Proof.Machine
end

section
/-! The frames of the stores of one byte and of the read-modify-writes on `(HL)` (R111, R174 to R190, R226, R228, R273
to R276), and that a stored byte or word reads back (R113 to R115). -/

namespace Sys2Proof.Machine

/-! ## The rows and their operations -/

theorem exec_ofLd_memHL (r : R8) (s : State) : exec (Instr.ofLd .memHL (.reg r)) s = storeHL r s := by cases r <;> rfl
theorem exec_ofStoreA (p : Ptr) (s : State) : exec (ofStoreA p) s = storeA p s := by cases p <;> rfl
theorem exec_ofRot_memHL (op : RotOp) (s : State) : exec (Instr.ofRot op .memHL) s = rotateLoc op .memHL s := by
  cases op <;> rfl
theorem exec_ofBit_memHL (b : Fin 8) (s : State) : exec (Instr.ofBit b .memHL) s = testBit b .memHL s := by
  fin_cases b <;> rfl
theorem exec_ofRes_memHL (b : Fin 8) (s : State) : exec (Instr.ofRes b .memHL) s = clearBit b .memHL s := by
  fin_cases b <;> rfl
theorem exec_ofSet_memHL (b : Fin 8) (s : State) : exec (Instr.ofSet b .memHL) s = assignBit b .memHL s := by
  fin_cases b <;> rfl

/-! ## One store, and what may follow it -/

theorem write_bytesKept (ea : Word) (v : Byte) (s : State) : BytesKept [ea] s (write ea v s) :=
  fun x hx => read_write_of_untouched ea v s x (hx ea (by simp))

theorem BytesKept.same {l : List Word} {s t u : State} (h : BytesKept l s t) (k : SameStore t u) : BytesKept l s u :=
  fun x hx => (k.read x).trans (h x hx)

/-- The frame of a store of one byte: every part is kept, and every byte outside those the store may change. -/
theorem write_frame (ea : Word) (v : Byte) (s : State) :
    Keeps [] s (write ea v s) ∧ BytesKept [ea] s (write ea v s) :=
  ⟨(write_core ea v s).keeps [], write_bytesKept ea v s⟩

theorem keeps_setF (s : State) (v : Byte) : Keeps [.flags] s (s.setF v) := by
  intro p hp
  cases p with
  | flags => exact absurd (List.mem_singleton_self _) hp
  | reg r => exact State.setF_r8 s v r
  | _ => rfl

theorem setF_same (s : State) (v : Byte) : SameStore s (s.setF v) := by constructor <;> rfl

/-- A store of one byte, and then the flags. -/
theorem write_setF_frame (ea : Word) (v w : Byte) (s : State) :
    Keeps [.flags] s ((write ea v s).setF w) ∧ BytesKept [ea] s ((write ea v s).setF w) :=
  ⟨((write_frame ea v s).1.mono (List.nil_subset _)).trans (keeps_setF _ w),
    (write_frame ea v s).2.same (setF_same _ w)⟩

theorem keeps_setHL (s : State) (v : Word) : Keeps [.reg .h, .reg .l] s (s.setHL v) := by
  intro p hp
  cases p with
  | reg r =>
    cases r with
    | h | l => simp at hp
    | _ => rfl
  | _ => rfl

/-- A pointer operand changes `HL` in its post-modified forms only (R186 to R190). -/
theorem ptrAfter_keeps (s : State) (p : Ptr) : Keeps (ptrChanges p) s (s.ptrAfter p) := by
  cases p with
  | hlInc => exact keeps_setHL s (s.hl + 1)
  | hlDec => exact keeps_setHL s (s.hl - 1)
  | bc | de | abs | high | highC => exact (SameCore.refl s).keeps []

/-! ## The frames -/

/-- Settles O23: each row is one store, then the change of `HL` of a post-modified form, and the clock. -/
theorem byteStoreFrame : Obligations.ByteStoreFrame := by
  intro s t
  refine ⟨fun r h => ?_, fun n h => ?_, fun p h => ?_⟩
  · rw [exec_ofLd_memHL] at h
    cases h
    obtain ⟨hparts, hbytes⟩ := write_frame s.hl (s.r8 r) s
    exact ⟨hparts.clocked 8, hbytes.clocked 8⟩
  · cases h
    obtain ⟨hparts, hbytes⟩ := write_frame s.hl n s
    exact ⟨hparts.clocked 12, hbytes.clocked 12⟩
  · rw [exec_ofStoreA] at h
    cases h
    obtain ⟨hparts, hbytes⟩ := write_frame (s.ptrAddr p) s.a s
    exact ⟨((hparts.mono (List.nil_subset _)).trans (ptrAfter_keeps _ p)).clocked _,
      (hbytes.same (ptrAfter_same _ p)).clocked _⟩

/-- Settles O44: `INC`, `DEC` and the rotates are a store and the flags, `RES` and `SET` a store, `BIT` the flags. -/
theorem readModifyWriteFrame : Obligations.ReadModifyWriteFrame := by
  intro s t
  refine ⟨fun h => ?_, fun ⟨b, h⟩ => ?_, fun ⟨b, h⟩ => ?_⟩
  · have hstore : ∃ v w c, t = stepClock c ((write s.hl v s).setF w) := by
      obtain h | h | ⟨op, h⟩ := h
      · cases h; exact ⟨_, _, _, rfl⟩
      · cases h; exact ⟨_, _, _, rfl⟩
      · rw [exec_ofRot_memHL] at h; cases h; exact ⟨_, _, _, rfl⟩
    obtain ⟨v, w, c, rfl⟩ := hstore
    obtain ⟨hparts, hbytes⟩ := write_setF_frame s.hl v w s
    exact ⟨hparts.clocked c, hbytes.clocked c⟩
  · have hstore : ∃ v, t = stepClock 16 (write s.hl v s) := by
      rw [exec_ofRes_memHL, exec_ofSet_memHL] at h
      obtain h | h := h
      · cases h; exact ⟨_, rfl⟩
      · cases h; exact ⟨_, rfl⟩
    obtain ⟨v, rfl⟩ := hstore
    obtain ⟨hparts, hbytes⟩ := write_frame s.hl v s
    exact ⟨hparts.clocked 16, hbytes.clocked 16⟩
  · rw [exec_ofBit_memHL] at h
    cases h
    exact ⟨(keeps_setF s _).clocked 12, rfl, by constructor <;> rfl⟩

/-! ## Reading back -/

/-- Settles O46: the two bytes of a word are the halves of the word that reads back. -/
theorem readAfterWrite : Obligations.ReadAfterWrite := by
  intro k s hk
  refine ⟨fun v x => ?_, fun hk' w => ?_⟩
  · split
    · next hx => rw [hx, read_write_self k v s hk]
    · next hx => exact read_write_other k v s x hk hx
  · have hword := read16_write16 k w s hk hk'
    have hlow := congrArg lo8 hword
    have hhigh := congrArg hi8 hword
    rw [read16, lo8_mk16] at hlow
    rw [read16, hi8_mk16] at hhigh
    exact ⟨hword, hlow, hhigh⟩

end Sys2Proof.Machine
end

section
/-! The decoder and the encoder read the opcode map alike (R140 to R157, R160, R161): what the encoder writes for the
instruction of an opcode byte and its operands, and what the decoder reads from a byte string by its length. -/

namespace Sys2Proof.Machine

/-! ## The decoder by length -/

/-- The first byte alone says which of the three lengths an instruction has (R142). -/
theorem lengthOf_cases (op : Byte) : lengthOf op = 1 ∨ lengthOf op = 2 ∨ lengthOf op = 3 := by
  unfold lengthOf
  split
  · exact .inr (.inr rfl)
  · split
    · exact .inr (.inl rfl)
    · exact .inl rfl

theorem decode_of_length_one {op : Byte} (h : lengthOf op = 1) (rest : List Byte) :
    decode (op :: rest) = .ok (decodeParts op 0 0, rest) := by
  simp only [decode, h]

theorem decode_of_length_two {op : Byte} (h : lengthOf op = 2) (o8 : Byte) (rest : List Byte) :
    decode (op :: o8 :: rest) = .ok (decodeParts op o8 0, rest) := by
  simp only [decode, h]

theorem decode_of_length_three {op : Byte} (h : lengthOf op = 3) (b1 b2 : Byte) (rest : List Byte) :
    decode (op :: b1 :: b2 :: rest) = .ok (decodeParts op b1 (mk16 b2 b1), rest) := by
  simp only [decode, h]

/-- The operand word is assembled low byte first (R143). -/
theorem decode_of_word {op : Byte} (h : lengthOf op = 3) (w : Word) (rest : List Byte) :
    decode (op :: lo8 w :: hi8 w :: rest) = .ok (decodeParts op (lo8 w) w, rest) := by
  rw [decode_of_length_three h, mk16_hi8_lo8]

/-- The bytes an opcode's length takes from its operands. -/
def operandBytes (op o8 : Byte) (o16 : Word) : List Byte :=
  match lengthOf op with
  | 3 => [lo8 o16, hi8 o16]
  | 2 => [o8]
  | _ => []

/-- A decoded byte string is the opcode, its operands and the rest, and the instruction is that of these parts. -/
theorem decode_inv {bytes rest : List Byte} {i : Instr} (h : decode bytes = .ok (i, rest)) :
    ∃ op o8 o16, i = decodeParts op o8 o16 ∧ bytes = op :: operandBytes op o8 o16 ++ rest := by
  unfold decode at h
  split at h
  · cases h
  · next op tail =>
    split at h
    · next hlen => cases h; exact ⟨op, 0, 0, rfl, by simp [operandBytes, hlen]⟩
    · next b1 _ hlen => cases h; exact ⟨op, b1, 0, rfl, by simp [operandBytes, hlen]⟩
    · next b1 b2 _ hlen => cases h; exact ⟨op, b1, mk16 b2 b1, rfl, by simp [operandBytes, hlen]⟩
    · cases h

/-! ## The encoder along the opcode map -/

/-- The opcode byte of the fields `x`, `y` and `z` (R144). -/
def opcodeOf (x y z : Nat) : Byte := byteOf (64 * x + 8 * y + z)

theorem opcodeOf_fields {op : Byte} {x : Nat} (hx : op.toNat / 64 = x) :
    opcodeOf x (op.toNat / 8 % 8) (op.toNat % 8) = op := by
  apply BitVec.eq_of_toNat_eq
  simp only [opcodeOf, byteOf, BitVec.toNat_ofNat]
  omega

/-- The field `x` has two bits. -/
theorem toNat_div_eq_three {op : Byte} (h0 : op.toNat / 64 ≠ 0) (h1 : op.toNat / 64 ≠ 1) (h2 : op.toNat / 64 ≠ 2) :
    op.toNat / 64 = 3 := by
  have := op.isLt
  omega

/-- The opcodes with `x = 0` (R153). -/
theorem encode_decodeX0 (y z : Fin 8) (o8 : Byte) (o16 : Word) :
    encode (decodeX0 y z o8 o16) = opcodeOf 0 y z :: operandBytes (opcodeOf 0 y z) o8 o16 := by
  fin_cases z <;> fin_cases y <;> rfl

/-- The opcodes with `x = 1` (R154). -/
theorem encode_ofLd (y z : Fin 8) (o8 : Byte) (o16 : Word) :
    encode (.ofLd (.ofIndex y) (.ofIndex z)) = opcodeOf 1 y z :: operandBytes (opcodeOf 1 y z) o8 o16 := by
  fin_cases y <;> fin_cases z <;> rfl

/-- The opcodes with `x = 2` (R155). -/
theorem encode_ofAlu (y z : Fin 8) (o8 : Byte) (o16 : Word) :
    encode (.ofAlu (.ofIndex y) (.ofIndex z)) = opcodeOf 2 y z :: operandBytes (opcodeOf 2 y z) o8 o16 := by
  fin_cases y <;> fin_cases z <;> rfl

theorem encode_ofRot (y z : Fin 8) : encode (.ofRot (.ofIndex y) (.ofIndex z)) = [0xCB, opcodeOf 0 y z] := by
  fin_cases y <;> fin_cases z <;> rfl

theorem encode_ofBit (y z : Fin 8) : encode (.ofBit (Fin.ofNat 8 y) (.ofIndex z)) = [0xCB, opcodeOf 1 y z] := by
  fin_cases y <;> fin_cases z <;> rfl

theorem encode_ofRes (y z : Fin 8) : encode (.ofRes (Fin.ofNat 8 y) (.ofIndex z)) = [0xCB, opcodeOf 2 y z] := by
  fin_cases y <;> fin_cases z <;> rfl

theorem encode_ofSet (y z : Fin 8) : encode (.ofSet (Fin.ofNat 8 y) (.ofIndex z)) = [0xCB, opcodeOf 3 y z] := by
  fin_cases y <;> fin_cases z <;> rfl

/-- The extended opcodes follow the byte 0xCB (R157). -/
theorem encode_decodeExtended (b : Byte) : encode (decodeExtended b) = [0xCB, b] := by
  have hy : b.toNat / 8 % 8 < 8 := Nat.mod_lt _ (by decide)
  have hz : b.toNat % 8 < 8 := Nat.mod_lt _ (by decide)
  unfold decodeExtended
  split
  · next hx => exact (encode_ofRot ⟨_, hy⟩ ⟨_, hz⟩).trans (by rw [opcodeOf_fields hx])
  · next hx => exact (encode_ofBit ⟨_, hy⟩ ⟨_, hz⟩).trans (by rw [opcodeOf_fields hx])
  · next hx => exact (encode_ofRes ⟨_, hy⟩ ⟨_, hz⟩).trans (by rw [opcodeOf_fields hx])
  · next h0 h1 h2 =>
    have hx := toNat_div_eq_three h0 h1 h2
    exact (encode_ofSet ⟨_, hy⟩ ⟨_, hz⟩).trans (by rw [opcodeOf_fields hx])

/-- The opcodes with `x = 3` (R156, R160); `y = 1`, `z = 3` is the byte 0xCB, whose operand byte is the extended
opcode. -/
theorem encode_decodeX3 (y z : Fin 8) (o8 : Byte) (o16 : Word) :
    encode (decodeX3 y z o8 o16) = opcodeOf 3 y z :: operandBytes (opcodeOf 3 y z) o8 o16 := by
  fin_cases z
  pick_goal 4
  · fin_cases y
    pick_goal 2
    · exact encode_decodeExtended o8
    all_goals rfl
  all_goals fin_cases y <;> rfl

/-- The instruction of an opcode and its operands is encoded as that opcode and the operands its length takes. -/
theorem encode_decodeParts (op o8 : Byte) (o16 : Word) :
    encode (decodeParts op o8 o16) = op :: operandBytes op o8 o16 := by
  have hy : op.toNat / 8 % 8 < 8 := Nat.mod_lt _ (by decide)
  have hz : op.toNat % 8 < 8 := Nat.mod_lt _ (by decide)
  unfold decodeParts
  split
  · next hx => exact (encode_decodeX0 ⟨_, hy⟩ ⟨_, hz⟩ o8 o16).trans (by rw [opcodeOf_fields hx])
  · next hx => exact (encode_ofLd ⟨_, hy⟩ ⟨_, hz⟩ o8 o16).trans (by rw [opcodeOf_fields hx])
  · next hx => exact (encode_ofAlu ⟨_, hy⟩ ⟨_, hz⟩ o8 o16).trans (by rw [opcodeOf_fields hx])
  · next h0 h1 h2 =>
    have hx := toNat_div_eq_three h0 h1 h2
    exact (encode_decodeX3 ⟨_, hy⟩ ⟨_, hz⟩ o8 o16).trans (by rw [opcodeOf_fields hx])

/-! ## The round trips -/

/-- Settles O2: by the constructors; the rows with a 16-bit operand put its two halves together again, and in every
other row both sides evaluate to the same. -/
theorem decodeAfterEncode : Obligations.DecodeAfterEncode := by
  intro i rest
  cases i with
  | ld_mnn_A nn | ld_A_mnn nn | ld_BC_nn nn | ld_mnn_SP nn | ld_DE_nn nn | ld_HL_nn nn | ld_SP_nn nn
  | jp_NZ_nn nn | jp_Z_nn nn | jp_NC_nn nn | jp_C_nn nn | jp_nn nn
  | call_NZ_nn nn | call_Z_nn nn | call_NC_nn nn | call_C_nn nn | call_nn nn => exact decode_of_word rfl nn rest
  | _ => rfl

/-- Settles O3: what the decoder reads is an instruction's parts, and the encoder writes these parts. -/
theorem encodeAfterDecode : Obligations.EncodeAfterDecode := by
  intro bytes i rest h
  obtain ⟨op, o8, o16, rfl, rfl⟩ := decode_inv h
  rw [encode_decodeParts]

/-- Settles O4, by induction on the list, one decoding each. -/
theorem programRoundTrip : Obligations.ProgramRoundTrip := by
  intro is rest
  induction is with
  | nil => rfl
  | cons i is ih =>
    have hfirst : decode (encode i ++ (encodeAll is ++ rest)) = .ok (i, encodeAll is ++ rest) := decodeAfterEncode i _
    simp only [encodeAll, List.append_assoc, List.length_cons, decodeMany, hfirst, ih]

/-! ## Fetch -/

/-- The bytes fetched are the opcode at `PC` and the operands its length takes, read at the next addresses (R140). -/
theorem fetchBytes_eq (s : State) :
    fetchBytes s =
      read s s.pc :: operandBytes (read s s.pc) (read s (s.pc + 1)) (mk16 (read s (s.pc + 2)) (read s (s.pc + 1))) := by
  obtain h | h | h := lengthOf_cases (read s s.pc)
  all_goals simp [fetchBytes, operandBytes, h, List.range_succ]

/-- Decoding the fetched bytes gives the fetched instruction. -/
theorem decode_fetchBytes (s : State) : decode (fetchBytes s) = .ok (fetchInstr s, []) := by
  obtain h | h | h := lengthOf_cases (read s s.pc)
  · simpa [fetchBytes_eq, fetchInstr, operandBytes, h] using decode_of_length_one h []
  · simpa [fetchBytes_eq, fetchInstr, operandBytes, h] using decode_of_length_two h (read s (s.pc + 1)) []
  · simpa [fetchBytes_eq, fetchInstr, operandBytes, h] using
      decode_of_length_three h (read s (s.pc + 1)) (read s (s.pc + 2)) []

theorem fetchBytes_length (s : State) : (fetchBytes s).length = lengthOf (read s s.pc) := by
  simp [fetchBytes]

theorem fetchBytes_getD (s : State) {k : Nat} (h : k < (fetchBytes s).length) :
    (fetchBytes s).getD k 0 = read s (s.pc + BitVec.ofNat 16 k) := by
  rw [List.getD_eq_getElem _ _ h]
  simp [fetchBytes]

/-- Settles O6: the decoder meets the fetched bytes at one of the three lengths, and `PC` moves by that length. -/
theorem fetchReadsOneInstruction : Obligations.FetchReadsOneInstruction := by
  intro s
  refine ⟨decode_fetchBytes s, ?_, fetchBytes_length s, fun k hk => fetchBytes_getD s hk⟩
  rw [fetchBytes_length]
  rfl

/-! ## The opcode map's words and holes -/

/-- Settles O1: the decoder runs on each word. -/
theorem decodeOfSpecWords : Obligations.DecodeOfSpecWords :=
  ⟨rfl, rfl, rfl, rfl, rfl, rfl, rfl, rfl, rfl, rfl, rfl, rfl, rfl, rfl, rfl, rfl, rfl⟩

/-- The 11 opcodes of R160. -/
def undefinedOpcodes : List Byte := [0xD3, 0xDB, 0xDD, 0xE3, 0xE4, 0xEB, 0xEC, 0xED, 0xF4, 0xFC, 0xFD]

/-- An ill-formed row is encoded as one of the undefined opcodes. -/
theorem encode_of_illFormed {i : Instr} (h : i.wellFormed = false) : ∃ op ∈ undefinedOpcodes, encode i = [op] := by
  unfold Instr.wellFormed Instr.isUndefined at h
  split at h
  case h_12 => cases h
  all_goals exact ⟨_, by decide, rfl⟩

/-- Settles O5: an ill-formed row is encoded as an undefined opcode, and what the decoder reads is encoded as the opcode
it was read from; the other direction evaluates the 11 opcodes. -/
theorem undefinedOpcodesAreEleven : Obligations.UndefinedOpcodesAreEleven := by
  intro op o8 o16
  constructor
  · intro h
    obtain ⟨op', hmem, henc⟩ := encode_of_illFormed h
    rw [encode_decodeParts, List.cons.injEq] at henc
    exact henc.1 ▸ hmem
  · intro h
    simp only [List.mem_cons, List.not_mem_nil, or_false] at h
    obtain rfl | rfl | rfl | rfl | rfl | rfl | rfl | rfl | rfl | rfl | rfl := h <;> rfl

end Sys2Proof.Machine
end

section
/-! The loads and stores of one byte (R170 to R190): the next state of each shared operation, and the bytes of the rows
that share one. -/

namespace Sys2Proof.Machine

/-! ## The rows, their operations and their bytes -/

theorem exec_ofLd_reg (dst src : R8) (s : State) : exec (Instr.ofLd (.reg dst) (.reg src)) s = copyReg dst src s := by
  cases dst <;> cases src <;> rfl
theorem exec_ofLdImm_reg (dst : R8) (n : Byte) (s : State) :
    exec (Instr.ofLdImm (.reg dst) n) s = loadImm dst n s := by
  cases dst <;> rfl
theorem exec_ofLd_reg_memHL (dst : R8) (s : State) : exec (Instr.ofLd (.reg dst) .memHL) s = loadHL dst s := by
  cases dst <;> rfl

/-- The rows `LD r,r'` hold the indices of their operands in two fields, `HALT` in the place of `LD (HL),(HL)` (R148,
R154). -/
theorem encode_ofLd_code (dst src : Loc8) :
    encode (Instr.ofLd dst src) = [byteOf (0x40 + 8 * dst.code + src.code)] := by
  rcases dst with dst | _
  · rcases src with src | _
    · cases dst <;> cases src <;> rfl
    · cases dst <;> rfl
  · rcases src with src | _
    · cases src <;> rfl
    · rfl

theorem encode_ofLdImm_code (dst : Loc8) (n : Byte) :
    encode (Instr.ofLdImm dst n) = [byteOf (0x06 + 8 * dst.code), n] := by
  rcases dst with dst | _
  · cases dst <;> rfl
  · rfl

/-! ## Loads -/

theorem keeps_setR8 (s : State) (dst : R8) (v : Byte) : Keeps [.reg dst] s (s.setR8 dst v) := by
  intro p hp
  cases p with
  | reg r =>
    have hr : r ≠ dst := by rintro rfl; exact hp (List.mem_singleton_self _)
    exact (State.setR8_r8 s dst r v).trans (if_neg hr)
  | _ => cases dst <;> rfl

theorem SameStore.sameMemory {s t : State} (h : SameStore s t) : SameMemory s t :=
  ⟨h.mem, { h with }⟩

theorem SameMemory.clocked {s t : State} (h : SameMemory s t) (k : Nat) : SameMemory s (stepClock k t) :=
  ⟨h.1, { h.2 with }⟩

/-- What the three forms of a register load share: the destination takes the value, the clock the cost, and nothing
else changes. -/
theorem stepClock_setR8_load (dst : R8) (v : Byte) (cost : Nat) (s : State) :
    ∃ t, (.next (stepClock cost (s.setR8 dst v)) : Result) = .next t ∧ t.r8 dst = v ∧ t.elapsed = s.elapsed + cost ∧
      Keeps [.reg dst] s t ∧ SameMemory s t :=
  ⟨_, rfl, by simp, by simp, (keeps_setR8 s dst v).clocked cost, (setR8_same s dst v).sameMemory.clocked cost⟩

/-- Settles O20: each row is one of the three operations, and each operation a load of one value. -/
theorem registerLoads : Obligations.RegisterLoads := by
  refine ⟨fun dst src s => ⟨encode_ofLd_code _ _, ?_⟩, fun dst n s => ⟨encode_ofLdImm_code _ n, ?_⟩,
    fun dst s => ⟨?_, ?_⟩⟩
  · rw [exec_ofLd_reg]
    exact stepClock_setR8_load dst (s.r8 src) 4 s
  · rw [exec_ofLdImm_reg]
    exact stepClock_setR8_load dst n 8 s
  · rw [encode_ofLd_code]
    exact congrArg (fun k => [byteOf k]) (Nat.add_right_comm 0x40 (8 * dst.code) 6)
  · rw [exec_ofLd_reg_memHL]
    exact stepClock_setR8_load dst (read s s.hl) 8 s

/-! ## The pointer operands of `A` -/

/-- The high page: `0xFF00 + n` is the word with high byte `0xFF` (R182 to R185). -/
theorem mk16_0xFF (n : Byte) : mk16 0xFF n = 0xFF00 + n.setWidth 16 := by
  have hn : n.toNat < 2 ^ 8 := n.isLt
  apply BitVec.eq_of_toNat_eq
  calc (mk16 0xFF n).toNat = 0xFF <<< 8 ||| n.toNat := BitVec.toNat_append ..
    _ = 0xFF <<< 8 + n.toNat := (Nat.shiftLeft_add_eq_or_of_lt hn 0xFF).symm
    _ = (0xFF00 + n.setWidth 16).toNat := by bv_omega

/-- A load of `A` changes `A`, then `HL` in the post-modified forms, and the clock (R190). -/
theorem exec_ofLoadA_eq (p : Ptr) (s : State) :
    exec (ofLoadA p) s =
      .next { s.ptrAfter p with a := read s (s.ptrAddr p), elapsed := s.elapsed + ptrCost p } := by
  cases p <;> rfl

/-- Settles O21: every row is a load of `A` through its pointer operand; only the high page's address is written another
way. -/
theorem accumulatorLoads : Obligations.AccumulatorLoads := by
  intro s
  refine ⟨⟨rfl, exec_ofLoadA_eq .bc s⟩, ⟨rfl, exec_ofLoadA_eq .de s⟩, fun nn => ⟨rfl, exec_ofLoadA_eq (.abs nn) s⟩,
    fun n => ⟨rfl, ?_⟩, ⟨rfl, ?_⟩, ⟨rfl, exec_ofLoadA_eq .hlInc s⟩, ⟨rfl, exec_ofLoadA_eq .hlDec s⟩⟩
  · rw [← mk16_0xFF]
    exact exec_ofLoadA_eq (.high n) s
  · rw [← mk16_0xFF]
    exact exec_ofLoadA_eq .highC s

/-! ## Stores -/

theorem write_hl (ea : Word) (v : Byte) (s : State) : (write ea v s).hl = s.hl := by simp [State.hl]

/-- The store does not move the clock, so the cost is added to the old value. -/
theorem stepClock_write (cost : Nat) (ea : Word) (v : Byte) (s : State) :
    stepClock cost (write ea v s) = { write ea v s with elapsed := s.elapsed + cost } := by
  rw [stepClock, write_elapsed]

theorem ptrAfter_elapsed (s : State) (p : Ptr) : (s.ptrAfter p).elapsed = s.elapsed := (ptrAfter_same s p).elapsed

/-- A store of `A` is one `Write`, then the change of `HL` of a post-modified form, and the clock (R190). -/
theorem exec_ofStoreA_eq (p : Ptr) (s : State) :
    exec (ofStoreA p) s =
      .next { (write (s.ptrAddr p) s.a s).ptrAfter p with elapsed := s.elapsed + ptrCost p } := by
  rw [exec_ofStoreA, storeA, stepClock, ptrAfter_elapsed, write_elapsed]

/-- Settles O22: every row is one store and the clock; the post-modified forms change `HL`, which the store leaves. -/
theorem byteStores : Obligations.ByteStores := by
  intro s
  refine ⟨fun r => ⟨encode_ofLd_code .memHL (.reg r), ?_⟩, fun n => ⟨rfl, ?_⟩, ⟨rfl, exec_ofStoreA_eq .bc s⟩,
    ⟨rfl, exec_ofStoreA_eq .de s⟩, fun nn => ⟨rfl, exec_ofStoreA_eq (.abs nn) s⟩, fun n => ⟨rfl, ?_⟩, ⟨rfl, ?_⟩,
    ⟨rfl, ?_⟩, ⟨rfl, ?_⟩⟩
  · exact (exec_ofLd_memHL r s).trans (congrArg _ (stepClock_write 8 s.hl (s.r8 r) s))
  · exact congrArg _ (stepClock_write 12 s.hl n s)
  · rw [← mk16_0xFF]
    exact exec_ofStoreA_eq (.high n) s
  · rw [← mk16_0xFF]
    exact exec_ofStoreA_eq .highC s
  · exact (exec_ofStoreA_eq .hlInc s).trans (by rw [State.ptrAfter, write_hl]; rfl)
  · exact (exec_ofStoreA_eq .hlDec s).trans (by rw [State.ptrAfter, write_hl]; rfl)

end Sys2Proof.Machine
end

section
/-! The 16-bit loads, the push and the pop (R200 to R207): the next state of each row, and the bytes of the rows of one
pair. -/

namespace Sys2Proof.Machine

/-! ## Words in memory, half by half (R113 to R115) -/

theorem hi8_read16 (s : State) (x : Word) : hi8 (read16 s x) = read s (x + 1) := hi8_mk16 _ _
theorem lo8_read16 (s : State) (x : Word) : lo8 (read16 s x) = read s x := lo8_mk16 _ _

/-- The store of a word does not move the clock, so the cost is added to the old value. -/
theorem stepClock_write16 (cost : Nat) (ea v : Word) (s : State) :
    stepClock cost (write16 ea v s) = { write16 ea v s with elapsed := s.elapsed + cost } := by
  rw [stepClock, write16_elapsed]

/-! ## Loads -/

/-- Settles O24: a row with a pair as its destination writes the two halves of one word; `LD (nn),SP` is the store of a
word. -/
theorem pairLoads : Obligations.PairLoads := by
  intro s
  refine ⟨fun nn => ⟨rfl, rfl, rfl, rfl, rfl, rfl, rfl, rfl, rfl, ?_⟩, ⟨rfl, rfl⟩, fun e => ⟨rfl, rfl⟩⟩
  exact congrArg _ (stepClock_write16 20 nn s.sp s)

/-! ## The stack -/

/-- The pushed word's high half goes to the byte below the old `SP`, after the low half (R205). -/
theorem push_eq (v : Word) (s : State) :
    push v s = write (s.sp - 1) (hi8 v) (write (s.sp - 2) (lo8 v) { s with sp := s.sp - 2 }) := by
  have hsp : s.sp - 2 + 1 = s.sp - 1 := by bv_omega
  rw [push, write16, hsp]

/-- A push moves `SP` and stores, and neither moves the clock. -/
theorem stepClock_push (cost : Nat) (v : Word) (s : State) :
    stepClock cost (push v s) = { push v s with elapsed := s.elapsed + cost } :=
  stepClock_write16 cost (s.sp - 2) v { s with sp := s.sp - 2 }

theorem encode_ofPush (rr : R16Stk) : encode (Instr.ofPush rr) = [byteOf (0xC5 + 16 * rr.code)] := by
  cases rr <;> rfl

theorem encode_ofPop (rr : R16Stk) : encode (Instr.ofPop rr) = [byteOf (0xC1 + 16 * rr.code)] := by
  cases rr <;> rfl

/-- Settles O25: a push is two stores and the clock; a pop writes the two halves of the word at `SP`. -/
theorem pushAndPop : Obligations.PushAndPop := by
  intro s
  refine ⟨fun rr => ⟨encode_ofPush rr, ?_⟩, encode_ofPop, ?_⟩
  · rw [exec_ofPush, pushPair, stepClock_push, push_eq]
    rfl
  · rw [← hi8_read16, ← lo8_read16]
    exact ⟨exec_ofPop .bc s, exec_ofPop .de s, exec_ofPop .hl s, exec_ofPop .af s⟩

end Sys2Proof.Machine
end

section
/-! The accumulator operations (R216 to R224): the rows of one operation with its operand in any of the three forms, and
the next state of each. -/

namespace Sys2Proof.Machine

/-! ## The rows, their operations and their bytes -/

theorem exec_ofAluSrc (op : AluOp) (x : AluSrc) (s : State) : exec (ofAluSrc op x) s = accumulate op x s := by
  rcases x with (r | _) | n
  · cases op <;> cases r <;> rfl
  · cases op <;> rfl
  · cases op <;> rfl

/-- The operation's index and the operand's are fields of the opcode byte (R216). -/
theorem encode_ofAluSrc (op : AluOp) (x : AluSrc) : encode (ofAluSrc op x) = aluBytes op x := by
  rcases x with (r | _) | n
  · cases op <;> cases r <;> rfl
  · cases op <;> rfl
  · cases op <;> rfl

theorem aluCost_eq (x : AluSrc) :
    aluCost x = match x with | .loc (.reg _) => 4 | .loc .memHL => 8 | .imm _ => 8 := by
  rcases x with (_ | _) | _ <;> rfl

/-- An accumulator operation changes `A`, the flags and the clock, by what `aluOut` computes and what the operand costs. -/
theorem exec_ofAluSrc_eq {op : AluOp} {x : AluSrc} {s : State} {v f : Byte} {cost : Nat} (hcost : aluCost x = cost)
    (h : aluOut op s.a (s.aluSrc x) s.flagC = ⟨v, f⟩) :
    exec (ofAluSrc op x) s = .next { s with a := v, f := f, elapsed := s.elapsed + cost } := by
  rw [exec_ofAluSrc, accumulate, h, hcost]
  rfl

/-! ## Addition -/

theorem toNat_and_0xF (v : Byte) : (v &&& 0xF).toNat = v.toNat % 16 :=
  (BitVec.toNat_and v 0xF).trans (Nat.and_two_pow_sub_one_eq_mod v.toNat 4)

/-- The 9-bit sum cannot overflow: two bytes and a carry are at most 511. -/
theorem toNat_sum9 (a x : Byte) (carry : Bool) :
    (a.setWidth 9 + x.setWidth 9 + BitVec.ofNat 9 carry.toNat).toNat = a.toNat + x.toNat + carry.toNat := by
  have := carry.toNat_le
  bv_omega

/-- Bit 8 of a 9-bit sum says that it is above 0xFF. -/
theorem getLsbD_eight_eq_decide (sum : BitVec 9) : sum.getLsbD 8 = decide (sum.toNat > 0xFF) := by
  rw [BitVec.getLsbD, Nat.testBit_eq_decide_div_mod_eq]
  have := sum.isLt
  exact decide_eq_decide.mpr (by omega)

/-- The sum of a byte, a byte and a carry, by the 9-bit sum and the nibble sum (R217, R218). -/
theorem addBytes_eq (a x : Byte) (carry : Bool) {sum : BitVec 9} (h : sum.toNat = a.toNat + x.toNat + carry.toNat) :
    addBytes a x carry =
      ⟨sum.setWidth 8,
        flagByte (sum.setWidth 8 == 0#8) false (decide ((a &&& 0xF).toNat + (x &&& 0xF).toNat + carry.toNat > 0xF))
          (sum.getLsbD 8)⟩ := by
  have hv : BitVec.ofNat 8 (a.toNat + x.toNat + carry.toNat) = sum.setWidth 8 := by
    rw [← h]
    rfl
  rw [getLsbD_eight_eq_decide, toNat_and_0xF, toNat_and_0xF, ← hv, h]
  rfl

theorem ite_eq_toNat (b : Bool) : (if b then 1 else 0) = b.toNat := (cond_eq_ite b 1 0).symm

/-- Settles O28: both are the sum of two bytes and a carry; `ADD` takes no carry in. -/
theorem addAndAdc : Obligations.AddAndAdc := by
  intro x s
  refine ⟨encode_ofAluSrc .add x, encode_ofAluSrc .adc x, ?_, ?_⟩
  · have hsum := toNat_sum9 s.a (s.aluSrc x) false
    rw [Bool.toNat_false, BitVec.add_zero] at hsum
    exact exec_ofAluSrc_eq (aluCost_eq x) (addBytes_eq s.a (s.aluSrc x) false hsum)
  · rw [ite_eq_toNat]
    exact exec_ofAluSrc_eq (aluCost_eq x) (addBytes_eq s.a (s.aluSrc x) s.flagC (toNat_sum9 _ _ _))

/-! ## Subtraction and comparison -/

/-- The difference of two bytes and a borrow is that of integers modulo 256 (R219, R220). -/
theorem ofInt_difference (a x : Byte) (borrow : Bool) :
    BitVec.ofInt 8 ((a.toNat : Int) - x.toNat - borrow.toNat) = a - x - BitVec.ofNat 8 borrow.toNat := by
  bv_omega

/-- The borrows are comparisons of integers (R219, R220, R233). -/
theorem subBytes_eq (a x : Byte) (borrow : Bool) :
    subBytes a x borrow =
      ⟨BitVec.ofInt 8 ((a.toNat : Int) - x.toNat - borrow.toNat),
        flagByte (decide (BitVec.ofInt 8 ((a.toNat : Int) - x.toNat - borrow.toNat) = 0)) true
          (decide (((a.toNat % 16 : Nat) : Int) - (x.toNat % 16 : Nat) - borrow.toNat < 0))
          (decide ((a.toNat : Int) - x.toNat - borrow.toNat < 0))⟩ := by
  have hhalf : ((a.toNat % 16 : Nat) : Int) - (x.toNat % 16 : Nat) - borrow.toNat < 0 ↔
      a.toNat % 16 < x.toNat % 16 + borrow.toNat := by omega
  have hfull : (a.toNat : Int) - x.toNat - borrow.toNat < 0 ↔ a.toNat < x.toNat + borrow.toNat := by omega
  rw [ofInt_difference, decide_eq_decide.mpr hhalf, decide_eq_decide.mpr hfull]
  rfl

/-- An integer difference in the range of two bytes is zero exactly when it is zero modulo 256. -/
theorem ofInt_difference_eq_zero (a x : Byte) : BitVec.ofInt 8 ((a.toNat : Int) - x.toNat) = 0 ↔ a = x := by
  bv_omega

theorem difference_eq_zero (a x : Byte) : (a.toNat : Int) - x.toNat = 0 ↔ a = x := by
  bv_omega

theorem ite_eq_toNat_int (b : Bool) : (if b then 1 else 0 : Int) = b.toNat := by cases b <;> rfl

/-- `SUB` and `CP` take no borrow in, and their Z says that the operands are equal (R219, R224). -/
theorem subBytes_no_borrow (a x : Byte) :
    subBytes a x false =
      ⟨BitVec.ofInt 8 ((a.toNat : Int) - x.toNat),
        flagByte (decide (a = x)) true (decide (((a.toNat % 16 : Nat) : Int) - (x.toNat % 16 : Nat) < 0))
          (decide ((a.toNat : Int) - x.toNat < 0))⟩ := by
  rw [subBytes_eq, Bool.toNat_false, Nat.cast_zero, Int.sub_zero, Int.sub_zero,
    decide_eq_decide.mpr (ofInt_difference_eq_zero a x)]

/-- Settles O29: all three are the difference of two bytes and a borrow; `CP` writes back the old `A`. -/
theorem subtractAndCompare : Obligations.SubtractAndCompare := by
  intro x s
  refine ⟨encode_ofAluSrc .sub x, encode_ofAluSrc .sbc x, encode_ofAluSrc .cp x, ?_, ?_, ?_⟩
  · rw [decide_eq_decide.mpr (difference_eq_zero s.a (s.aluSrc x))]
    exact exec_ofAluSrc_eq (aluCost_eq x) (subBytes_no_borrow s.a (s.aluSrc x))
  · exact exec_ofAluSrc_eq (op := .cp) (aluCost_eq x)
      (congrArg (fun r : Out8 => Out8.mk s.a r.flags) (subBytes_no_borrow s.a (s.aluSrc x)))
  · rw [ite_eq_toNat_int]
    exact exec_ofAluSrc_eq (aluCost_eq x) (subBytes_eq s.a (s.aluSrc x) s.flagC)

/-! ## Logic -/

/-- Settles O30: the three write a logical result and the flags that go with it. -/
theorem logicalOperations : Obligations.LogicalOperations := by
  intro x s
  exact ⟨encode_ofAluSrc .and x, encode_ofAluSrc .xor x, encode_ofAluSrc .or x, exec_ofAluSrc_eq (aluCost_eq x) rfl,
    exec_ofAluSrc_eq (aluCost_eq x) rfl, exec_ofAluSrc_eq (aluCost_eq x) rfl⟩

end Sys2Proof.Machine
end

section
/-! `INC` and `DEC` of a register and of `(HL)` (R225 to R228), and the operations on `A` and the carry with no operand
(R230 to R232). -/

namespace Sys2Proof.Machine

/-! ## The rows, their operations and their bytes -/

theorem exec_ofInc_reg (r : R8) (s : State) : exec (Instr.ofInc (.reg r)) s = incLoc (.reg r) s := by cases r <;> rfl
theorem exec_ofDec_reg (r : R8) (s : State) : exec (Instr.ofDec (.reg r)) s = decLoc (.reg r) s := by cases r <;> rfl
theorem encode_ofInc_reg (r : R8) : encode (Instr.ofInc (.reg r)) = [byteOf (0x04 + 8 * r.code)] := by cases r <;> rfl
theorem encode_ofDec_reg (r : R8) : encode (Instr.ofDec (.reg r)) = [byteOf (0x05 + 8 * r.code)] := by cases r <;> rfl

/-! ## The computed value and its flags -/

/-- The low nibble as a byte and as a number. -/
theorem and_0xF_eq_iff (v n : Byte) : v &&& 0xF = n ↔ v.toNat % 16 = n.toNat := by
  rw [← toNat_and_0xF, BitVec.toNat_inj]

/-- `INC` wraps to zero from 0xFF only, and carries out of a low nibble of 0xF only (R225, R226). -/
theorem incByte_eq (v : Byte) (carry : Bool) :
    incByte v carry = ⟨v + 1, flagByte (decide (v = 0xFF)) false (decide (v &&& 0xF = 0xF)) carry⟩ := by
  have hzero : v = 0xFF ↔ v + 1 = 0 := by bv_omega
  rw [decide_eq_decide.mpr hzero, decide_eq_decide.mpr (and_0xF_eq_iff v 0xF)]
  rfl

/-- `DEC` reaches zero from 1 only, and borrows into a low nibble of 0 only (R227, R228). -/
theorem decByte_eq (v : Byte) (carry : Bool) :
    decByte v carry = ⟨v - 1, flagByte (decide (v = 1)) true (decide (v &&& 0xF = 0)) carry⟩ := by
  have hzero : v = 1 ↔ v - 1 = 0 := by bv_omega
  rw [decide_eq_decide.mpr hzero, decide_eq_decide.mpr (and_0xF_eq_iff v 0)]
  rfl

/-! ## The next states -/

/-- A register takes a value, the flags theirs, and the clock the cost: nothing else changes. -/
theorem setR8_setF_frame (r : R8) (v f : Byte) (cost : Nat) (s : State) :
    Keeps [.reg r, .flags] s (stepClock cost ((s.setR8 r v).setF f)) ∧
      SameMemory s (stepClock cost ((s.setR8 r v).setF f)) := by
  have hparts : Keeps [.reg r, .flags] s ((s.setR8 r v).setF f) :=
    ((keeps_setR8 s r v).mono (by simp)).trans ((keeps_setF _ f).mono (by simp))
  exact ⟨hparts.clocked cost, ((setR8_same s r v).trans (setF_same _ f)).sameMemory.clocked cost⟩

theorem stepClock_setR8_setF (r : R8) (v f : Byte) (cost : Nat) (s : State) :
    ∃ t, (.next (stepClock cost ((s.setR8 r v).setF f)) : Result) = .next t ∧ t.r8 r = v ∧ t.f = f ∧
      t.elapsed = s.elapsed + cost ∧ Keeps [.reg r, .flags] s t ∧ SameMemory s t :=
  ⟨_, rfl, by simp, rfl, by simp, setR8_setF_frame r v f cost s⟩

/-- The store leaves the flags and the clock, so the flags and the cost may be written over it. -/
theorem stepClock_setF_write (cost : Nat) (ea : Word) (v f : Byte) (s : State) :
    stepClock cost ((write ea v s).setF f) = { write ea v s with f := f, elapsed := s.elapsed + cost } := by
  rw [stepClock, State.setF_elapsed, write_elapsed]
  rfl

/-- Settles O31: each row computes a value and its flags from the old byte; the register takes the value, or one `Write`
stores it. -/
theorem incrementAndDecrement : Obligations.IncrementAndDecrement := by
  intro s
  refine ⟨fun r => ⟨encode_ofInc_reg r, ?_⟩, fun r => ⟨encode_ofDec_reg r, ?_⟩, rfl, ?_, rfl, ?_⟩
  · rw [exec_ofInc_reg, incLoc, incByte_eq]
    exact stepClock_setR8_setF r (s.r8 r + 1) _ 4 s
  · rw [exec_ofDec_reg, decLoc, decByte_eq]
    exact stepClock_setR8_setF r (s.r8 r - 1) _ 4 s
  · change incLoc .memHL s = _
    rw [incLoc, incByte_eq]
    exact congrArg _ (stepClock_setF_write 12 s.hl _ _ s)
  · change decLoc .memHL s = _
    rw [decLoc, decByte_eq]
    exact congrArg _ (stepClock_setF_write 12 s.hl _ _ s)

/-- Settles O34: each is the flags byte written over the old state, `CPL` with the complement in `A`. -/
theorem complementAndCarry : Obligations.ComplementAndCarry :=
  fun _ => ⟨⟨rfl, rfl⟩, ⟨rfl, rfl⟩, ⟨rfl, rfl⟩⟩

end Sys2Proof.Machine
end

section
/-! `DAA` (R229): the two branches of the correction, and decimal addition and subtraction of two-digit bytes. -/

namespace Sys2Proof.Machine

/-! ## The bits of the flags byte (R26) -/

theorem flagByte_bit7 (z n h c : Bool) : (flagByte z n h c).getLsbD 7 = z := by revert z n h c; decide
theorem flagByte_bit6 (z n h c : Bool) : (flagByte z n h c).getLsbD 6 = n := by revert z n h c; decide
theorem flagByte_bit5 (z n h c : Bool) : (flagByte z n h c).getLsbD 5 = h := by revert z n h c; decide
theorem flagByte_bit4 (z n h c : Bool) : (flagByte z n h c).getLsbD 4 = c := by revert z n h c; decide

/-! ## The two branches -/

/-- The two corrections have no bit in common, so joining them is adding them. -/
theorem corrections_or (low high : Prop) [Decidable low] [Decidable high] :
    (if low then 0x06#8 else 0#8) ||| (if high then 0x60#8 else 0#8) =
      (if low then 0x06#8 else 0#8) + (if high then 0x60#8 else 0#8) := by
  split <;> split <;> rfl

/-- After an addition the tests look at the nibble, the byte and the flags as they were. -/
theorem daaOut_value_afterAdd (a : Byte) (h c : Bool) :
    (daaOut a false h c).value =
      a + (if h = true ∨ (a &&& 0xF).toNat > 9 then 0x06 else 0) + (if c = true ∨ a.toNat > 0x99 then 0x60 else 0) := by
  simp only [daaOut, corrections_or, toNat_and_0xF, Bool.false_eq_true, if_false, Bool.or_eq_true, decide_eq_true_eq,
    BitVec.add_assoc]
  rfl

/-- After a subtraction the tests look at the flags only. -/
theorem daaOut_value_afterSub (a : Byte) (h c : Bool) :
    (daaOut a true h c).value = a - (if h = true then 0x06 else 0) - (if c = true then 0x60 else 0) := by
  simp only [daaOut, corrections_or, if_true, sub_add_eq_sub_sub]
  rfl

theorem daaOut_flags (a : Byte) (n h c : Bool) :
    (daaOut a n h c).flags = flagByte ((daaOut a n h c).value == 0) n false
      (if n then c else c || decide (a.toNat > 0x99)) := rfl

theorem exec_daa (s : State) :
    exec .daa s =
      .next (stepClock 4 ((s.setR8 .a (daaOut s.a s.flagN s.flagH s.flagC).value).setF
        (daaOut s.a s.flagN s.flagH s.flagC).flags)) := rfl

/-- Settles O32: the branch is that of `N`; the rest is the same in both. -/
theorem decimalAdjust : Obligations.DecimalAdjust := by
  intro s
  obtain ⟨hkeeps, hmem⟩ := setR8_setF_frame .a (daaOut s.a s.flagN s.flagH s.flagC).value
    (daaOut s.a s.flagN s.flagH s.flagC).flags 4 s
  refine ⟨rfl, _, exec_daa s, fun hn => ?_, fun hn => ?_, ?_, ?_, ?_, ?_, rfl, hkeeps, hmem⟩
  · change s.flagN = false at hn
    rw [hn]
    exact ⟨daaOut_value_afterAdd s.a s.flagH s.flagC, flagByte_bit4 ..⟩
  · change s.flagN = true at hn
    rw [hn]
    exact ⟨daaOut_value_afterSub s.a s.flagH s.flagC, flagByte_bit4 ..⟩
  · exact flagByte_bit7 ..
  · exact flagByte_bit6 ..
  · exact flagByte_bit5 ..
  · exact flagByte_low ..

/-! ## Decimal arithmetic -/

/-- The last two decimal digits of a number, one to a nibble. -/
def twoDigits (n : Nat) : Byte := byteOf (16 * (n % 100 / 10) + n % 10)

/-- A number's hundreds `c` are dropped, its tens `p` and units `q` packed. -/
theorem twoDigits_eq {n c p q : Nat} (hp : p < 10) (hq : q < 10) (h : n = 100 * c + 10 * p + q) :
    twoDigits n = BitVec.ofNat 8 (16 * p + q) := by
  have htens : n % 100 / 10 = p := by omega
  have hunits : n % 10 = q := by omega
  rw [twoDigits, htens, hunits, byteOf]

theorem toNat_byteOf {n : Nat} (h : n < 256) : (byteOf n).toNat = n := Nat.mod_eq_of_lt h

/-- After a sum whose digit sums are `p` and `q`, the corrections are those of the digits that carry: the cases are whether
the units carry, then whether the whole sum does. -/
theorem daaOut_digit_sums {p q : Nat} (hp : p ≤ 18) (hq : q ≤ 18) :
    (daaOut (byteOf (16 * p + q)) false (decide (q > 15)) (decide (16 * p + q > 255))).value = twoDigits (10 * p + q) ∧
      (daaOut (byteOf (16 * p + q)) false (decide (q > 15)) (decide (16 * p + q > 255))).flags.getLsbD 4 =
        decide (100 ≤ 10 * p + q) := by
  have hbyte : (byteOf (16 * p + q)).toNat = (16 * p + q) % 256 := BitVec.toNat_ofNat ..
  have hlow : (decide (q > 15) = true ∨ (byteOf (16 * p + q) &&& 0xF).toNat > 9) ↔ 10 ≤ q := by
    rw [toNat_and_0xF, hbyte, decide_eq_true_eq]
    omega
  have hhigh : (decide (16 * p + q > 255) = true ∨ (byteOf (16 * p + q)).toNat > 0x99) ↔ 100 ≤ 10 * p + q := by
    rw [hbyte, decide_eq_true_eq]
    omega
  constructor
  · rw [daaOut_value_afterAdd]
    simp only [hlow, hhigh]
    unfold byteOf
    split
    · split
      · rw [twoDigits_eq (c := 1) (p := p - 9) (q := q - 10) (by omega) (by omega) (by omega)]
        bv_omega
      · rw [twoDigits_eq (c := 0) (p := p + 1) (q := q - 10) (by omega) (by omega) (by omega)]
        bv_omega
    · split
      · rw [twoDigits_eq (c := 1) (p := p - 10) (q := q) (by omega) (by omega) (by omega)]
        bv_omega
      · rw [twoDigits_eq (c := 0) (p := p) (q := q) (by omega) (by omega) (by omega)]
        bv_omega
  · rw [daaOut_flags, flagByte_bit4, ← decide_eq_decide.mpr hhigh, Bool.decide_or, Bool.decide_eq_true]
    rfl

section
variable {x1 x0 y1 y0 : Nat} (hx1 : x1 < 10) (hx0 : x0 < 10) (hy1 : y1 < 10) (hy0 : y0 < 10)
include hx1 hx0 hy1 hy0

/-- The binary sum of two decimal bytes, with its half carry and its carry. -/
theorem addBytes_decimal :
    addBytes (byteOf (16 * x1 + x0)) (byteOf (16 * y1 + y0)) false =
      ⟨byteOf (16 * (x1 + y1) + (x0 + y0)),
        flagByte (byteOf (16 * (x1 + y1) + (x0 + y0)) == 0) false (decide (x0 + y0 > 15))
          (decide (16 * (x1 + y1) + (x0 + y0) > 255))⟩ := by
  have hsum : 16 * x1 + x0 + (16 * y1 + y0) + false.toNat = 16 * (x1 + y1) + (x0 + y0) := by
    rw [Bool.toNat_false]
    omega
  have hhalf : (16 * x1 + x0) % 16 + (16 * y1 + y0) % 16 + false.toNat = x0 + y0 := by
    rw [Bool.toNat_false]
    omega
  rw [addBytes, toNat_byteOf (by omega), toNat_byteOf (by omega), hsum, hhalf]
  rfl

/-- The binary difference of two decimal bytes: the borrows are those of the units and of the numbers. -/
theorem subBytes_decimal :
    ∃ z, subBytes (byteOf (16 * x1 + x0)) (byteOf (16 * y1 + y0)) false =
      ⟨byteOf (16 * x1 + x0) - byteOf (16 * y1 + y0),
        flagByte z true (decide (x0 < y0)) (decide (10 * x1 + x0 < 10 * y1 + y0))⟩ := by
  have hhalf : (16 * x1 + x0) % 16 < (16 * y1 + y0) % 16 + false.toNat ↔ x0 < y0 := by
    rw [Bool.toNat_false]
    omega
  have hfull : 16 * x1 + x0 < 16 * y1 + y0 + false.toNat ↔ 10 * x1 + x0 < 10 * y1 + y0 := by
    rw [Bool.toNat_false]
    omega
  rw [subBytes, toNat_byteOf (by omega), toNat_byteOf (by omega), decide_eq_decide.mpr hhalf,
    decide_eq_decide.mpr hfull, Bool.toNat_false, BitVec.sub_zero]
  exact ⟨_, rfl⟩

/-- After a difference, the corrections are those of the digits that borrow: the cases are whether the units borrow, then
whether the whole difference does. -/
theorem daaOut_digit_difference :
    (daaOut (byteOf (16 * x1 + x0) - byteOf (16 * y1 + y0)) true (decide (x0 < y0))
      (decide (10 * x1 + x0 < 10 * y1 + y0))).value = twoDigits (100 + (10 * x1 + x0) - (10 * y1 + y0)) := by
  rw [daaOut_value_afterSub]
  simp only [decide_eq_true_eq, byteOf]
  split
  · split
    · rw [twoDigits_eq (c := 0) (p := 9 + x1 - y1) (q := 10 + x0 - y0) (by omega) (by omega) (by omega)]
      bv_omega
    · rw [twoDigits_eq (c := 1) (p := x1 - y1 - 1) (q := 10 + x0 - y0) (by omega) (by omega) (by omega)]
      bv_omega
  · split
    · rw [twoDigits_eq (c := 0) (p := 10 + x1 - y1) (q := x0 - y0) (by omega) (by omega) (by omega)]
      bv_omega
    · rw [twoDigits_eq (c := 1) (p := x1 - y1) (q := x0 - y0) (by omega) (by omega) (by omega)]
      bv_omega

end

/-- An immediate operation and `DAA` after it, which reads the flags just written. -/
theorem exec_ofAluImm_daa {op : AluOp} {m v : Byte} {z n h c : Bool} {s : State}
    (hout : aluOut op s.a m s.flagC = ⟨v, flagByte z n h c⟩) :
    ∃ t u, exec (Instr.ofAluImm op m) s = .next t ∧ exec .daa t = .next u ∧ u.a = (daaOut v n h c).value ∧
      u.f = (daaOut v n h c).flags := by
  refine ⟨_, _, exec_ofAluSrc_eq (x := .imm m) rfl hout, exec_daa _, ?_⟩
  simp only [State.flagN, State.flagH, State.flagC, flagByte_bit6, flagByte_bit5, flagByte_bit4]
  exact ⟨rfl, rfl⟩

/-- Settles O33: `ADD` and `SUB` leave the binary result with the carries of its digits, and `DAA` turns these into the
decimal digits. -/
theorem decimalArithmetic : Obligations.DecimalArithmetic := by
  intro s x1 x0 y1 y0 hx1 hx0 hy1 hy0 ha
  constructor
  · have hout := addBytes_decimal hx1 hx0 hy1 hy0
    rw [← ha] at hout
    obtain ⟨t, u, ht, hu, hua, huf⟩ := exec_ofAluImm_daa (op := .add) hout
    obtain ⟨hvalue, hcarry⟩ := daaOut_digit_sums (p := x1 + y1) (q := x0 + y0) (by omega) (by omega)
    have hsum : 10 * x1 + x0 + (10 * y1 + y0) = 10 * (x1 + y1) + (x0 + y0) := by omega
    rw [hsum]
    exact ⟨t, u, ht, hu, hua.trans hvalue, huf ▸ hcarry⟩
  · obtain ⟨z, hout⟩ := subBytes_decimal hx1 hx0 hy1 hy0
    rw [← ha] at hout
    obtain ⟨t, u, ht, hu, hua, huf⟩ := exec_ofAluImm_daa (op := .sub) hout
    rw [ha] at hua
    exact ⟨t, u, ht, hu, hua.trans (daaOut_digit_difference hx1 hx0 hy1 hy0), huf ▸ flagByte_bit4 ..⟩

end Sys2Proof.Machine
end

section
/-! The 16-bit arithmetic (R250 to R254): the rows of one operation on a pair, the 17-bit sum, and what a write to a pair
leaves. -/

namespace Sys2Proof.Machine

/-! ## The rows, their operations and their bytes -/

theorem exec_ofAddHL (rr : R16) (s : State) : exec (Instr.ofAddHL rr) s = addToHl rr s := by cases rr <;> rfl
theorem exec_ofInc16 (rr : R16) (s : State) : exec (Instr.ofInc16 rr) s = incPair rr s := by cases rr <;> rfl
theorem exec_ofDec16 (rr : R16) (s : State) : exec (Instr.ofDec16 rr) s = decPair rr s := by cases rr <;> rfl

/-- The pair's index is a field of the opcode byte (R149, R153). -/
theorem encode_ofAddHL (rr : R16) : encode (Instr.ofAddHL rr) = [byteOf (0x09 + 16 * rr.code)] := by
  cases rr <;> rfl
theorem encode_ofInc16 (rr : R16) : encode (Instr.ofInc16 rr) = [byteOf (0x03 + 16 * rr.code)] := by
  cases rr <;> rfl
theorem encode_ofDec16 (rr : R16) : encode (Instr.ofDec16 rr) = [byteOf (0x0B + 16 * rr.code)] := by
  cases rr <;> rfl

/-! ## The 17-bit sum -/

theorem toNat_and_0xFFF (v : Word) : (v &&& 0xFFF).toNat = v.toNat % 4096 :=
  (BitVec.toNat_and v 0xFFF).trans (Nat.and_two_pow_sub_one_eq_mod v.toNat 12)

/-- The 17-bit sum cannot overflow: two words are at most 131070. -/
theorem toNat_sum17 (x y : Word) : (x.setWidth 17 + y.setWidth 17).toNat = x.toNat + y.toNat := by
  bv_omega

/-- Bit 16 of a 17-bit sum says that it is above 0xFFFF. -/
theorem getLsbD_sixteen_eq_decide (sum : BitVec 17) : sum.getLsbD 16 = decide (sum.toNat > 0xFFFF) :=
  BitVec.msb_eq_getLsbD_last sum ▸ BitVec.msb_eq_decide sum

/-- The sum of two words, by the 17-bit sum and the sum of the low 12 bits (R251). -/
theorem addWords_eq (x y : Word) (z : Bool) {sum : BitVec 17} (h : sum.toNat = x.toNat + y.toNat) :
    addWords x y z =
      ⟨sum.setWidth 16,
        flagByte z false (decide ((x &&& 0xFFF).toNat + (y &&& 0xFFF).toNat > 0xFFF)) (sum.getLsbD 16)⟩ := by
  rw [getLsbD_sixteen_eq_decide, toNat_and_0xFFF, toNat_and_0xFFF, h, addWords, ← h]
  rfl

theorem hi8_setWidth (sum : BitVec 17) : hi8 (sum.setWidth 16) = sum.extractLsb' 8 8 :=
  BitVec.extractLsb'_setWidth_of_le (by decide)
theorem lo8_setWidth (sum : BitVec 17) : lo8 (sum.setWidth 16) = sum.extractLsb' 0 8 :=
  BitVec.extractLsb'_setWidth_of_le (by decide)

/-- `ADD HL,rr` writes the two halves of the sum, the flags and the clock (R251). -/
theorem addToHl_eq (rr : R16) (s : State) {sum : BitVec 17} (h : sum.toNat = s.hl.toNat + (s.r16 rr).toNat) :
    addToHl rr s =
      .next { s with
        h := sum.extractLsb' 8 8, l := sum.extractLsb' 0 8
        f := flagByte s.flagZ false (decide ((s.hl &&& 0xFFF).toNat + (s.r16 rr &&& 0xFFF).toNat > 0xFFF))
          (sum.getLsbD 16)
        elapsed := s.elapsed + 8 } := by
  rw [addToHl, addWords_eq _ _ _ h, ← hi8_setWidth, ← lo8_setWidth]
  rfl

/-! ## A write to a pair -/

/-- A pair reads back what was written to it (R149). -/
@[simp] theorem State.setR16_r16 (s : State) (rr : R16) (v : Word) : (s.setR16 rr v).r16 rr = v := by
  cases rr with
  | bc => exact State.setBC_bc s v
  | de => exact State.setDE_de s v
  | hl => exact State.setHL_hl s v
  | sp => rfl

@[simp] theorem State.setR16_elapsed (s : State) (rr : R16) (v : Word) : (s.setR16 rr v).elapsed = s.elapsed := by
  cases rr <;> rfl

/-- The write leaves the clock, so the cost is added to the old value. -/
theorem stepClock_setR16 (cost : Nat) (rr : R16) (v : Word) (s : State) :
    stepClock cost (s.setR16 rr v) = { s.setR16 rr v with elapsed := s.elapsed + cost } := by
  rw [stepClock, State.setR16_elapsed]

theorem keeps_setR8_setR8 (s : State) (r q : R8) (v w : Byte) :
    Keeps [.reg r, .reg q] s ((s.setR8 r v).setR8 q w) :=
  ((keeps_setR8 s r v).mono (by simp)).trans ((keeps_setR8 _ q w).mono (by simp))

/-- The parts that hold a pair: the registers of its two halves, or `SP` (R21). -/
def pairParts (rr : R16) : List Part :=
  match rr with
  | .bc => [.reg .b, .reg .c]
  | .de => [.reg .d, .reg .e]
  | .hl => [.reg .h, .reg .l]
  | .sp => [.sp]

/-- A write to a pair is a write to each of its halves, `SP` having none. -/
theorem keeps_setR16 (s : State) (rr : R16) (v : Word) : Keeps (pairParts rr) s (s.setR16 rr v) := by
  cases rr with
  | bc => exact keeps_setR8_setR8 s .b .c (hi8 v) (lo8 v)
  | de => exact keeps_setR8_setR8 s .d .e (hi8 v) (lo8 v)
  | hl => exact keeps_setR8_setR8 s .h .l (hi8 v) (lo8 v)
  | sp => exact keeps_setSp s v

/-- Settles O35: `ADD HL,rr` writes the 17-bit sum, `INC` and `DEC` write the pair alone, and `ADD SP,e` writes the sum
and the flags of `addSpOffset`. -/
theorem pairArithmetic : Obligations.PairArithmetic := by
  intro s
  refine ⟨fun rr => ⟨encode_ofAddHL rr, ?_⟩, fun rr => ⟨encode_ofInc16 rr, ?_, State.setR16_r16 s rr _⟩,
    fun rr => ⟨encode_ofDec16 rr, ?_, State.setR16_r16 s rr _⟩,
    fun rr v => ⟨(setR16_same s rr v).sameMemory, keeps_setR16 s rr v⟩, fun e => ⟨rfl, rfl⟩⟩
  · rw [exec_ofAddHL]
    exact addToHl_eq rr s (toNat_sum17 s.hl (s.r16 rr))
  · rw [exec_ofInc16, incPair, stepClock_setR16]
  · rw [exec_ofDec16, decPair, stepClock_setR16]

end Sys2Proof.Machine
end

section
/-! Rotates and shifts of a bit vector by one place, and what several of them make. -/

namespace Sys2Proof.Machine

/-! ## By several places -/

/-- Where the amounts of an operation add up, `n` times by one place is once by `n` places. -/
theorem iterate_one_eq {α : Type} {shift : α → Nat → α} (hzero : ∀ x, shift x 0 = x)
    (hadd : ∀ x m n, shift x (m + n) = shift (shift x m) n) (n : Nat) (x : α) :
    (fun y => shift y 1)^[n] x = shift x n := by
  induction n generalizing x with
  | zero => exact (hzero x).symm
  | succ n ih => rw [Function.iterate_succ_apply, ih, ← hadd, Nat.add_comm]

theorem rotateLeft_add {w : Nat} (x : BitVec w) (m n : Nat) :
    x.rotateLeft (m + n) = (x.rotateLeft m).rotateLeft n := by
  apply BitVec.eq_of_getMsbD_eq
  intro i hi
  have hlt : (n + i) % w < w := Nat.mod_lt _ (by omega)
  have hmod : (m + (n + i) % w) % w = (m + n + i) % w := by rw [Nat.add_mod_mod, Nat.add_assoc]
  simp only [BitVec.getMsbD_rotateLeft, hi, hlt, hmod, decide_true, Bool.true_and]

theorem rotateLeft_zero {w : Nat} (x : BitVec w) : x.rotateLeft 0 = x := by
  apply BitVec.eq_of_getMsbD_eq
  intro i hi
  rw [BitVec.getMsbD_rotateLeft, Nat.zero_add, Nat.mod_eq_of_lt hi, decide_eq_true hi, Bool.true_and]

/-- A rotate by the width is none. -/
theorem rotateLeft_width {w : Nat} (x : BitVec w) : x.rotateLeft w = x := by
  rw [← BitVec.rotateLeft_mod_eq_rotateLeft, Nat.mod_self, rotateLeft_zero]

theorem iterate_rotateLeft_width {w : Nat} (x : BitVec w) : (fun y : BitVec w => y.rotateLeft 1)^[w] x = x :=
  (iterate_one_eq rotateLeft_zero rotateLeft_add w x).trans (rotateLeft_width x)

/-! ## By one place -/

/-- The bit that leaves at the top comes in at the bottom. -/
theorem rotateLeft_one_cons {w : Nat} (b : Bool) (x : BitVec (w + 1)) :
    (BitVec.cons b x).rotateLeft 1 = x.concat b := by
  apply BitVec.eq_of_getLsbD_eq
  intro i hi
  rw [BitVec.getLsbD_rotateLeft_of_le (by omega), BitVec.getLsbD_concat, BitVec.getLsbD_cons, BitVec.getLsbD_cons]
  cases i with
  | zero => simp
  | succ i =>
    have hne : i ≠ w + 1 := by omega
    simp [hi, hne]

/-- To the right by one place is to the left by all places but one. -/
theorem rotateRight_one_eq (x : Byte) : x.rotateRight 1 = x.rotateLeft 7 := BitVec.or_comm _ _

theorem rotateRight_rotateLeft_one : Function.LeftInverse (fun x : Byte => x.rotateRight 1) (·.rotateLeft 1) := by
  intro x
  calc (x.rotateLeft 1).rotateRight 1 = x.rotateLeft (1 + 7) := by rw [rotateRight_one_eq, rotateLeft_add]
    _ = x := rotateLeft_width x

theorem rotateLeft_rotateRight_one : Function.LeftInverse (fun x : Byte => x.rotateLeft 1) (·.rotateRight 1) := by
  intro x
  calc (x.rotateRight 1).rotateLeft 1 = x.rotateLeft (7 + 1) := by rw [rotateRight_one_eq, rotateLeft_add]
    _ = x := rotateLeft_width x

/-- The sign bit fills the byte in seven arithmetic shifts. -/
theorem sshiftRight_seven (x : Byte) : x.sshiftRight 7 = if x.getLsbD 7 then 0xFF else 0 := by
  have hbit : ∀ (c : Bool) (i : Nat), i < 8 → (if c then 0xFF else 0 : Byte).getLsbD i = c := by decide
  apply BitVec.eq_of_getLsbD_eq
  intro i hi
  rw [BitVec.getLsbD_sshiftRight, hbit _ i hi, decide_eq_false (Nat.not_le.mpr hi), Bool.not_false, Bool.true_and]
  split
  · next hlt =>
    have hzero : i = 0 := by omega
    rw [hzero]
  · rfl

end Sys2Proof.Machine
end

section
/-! The data of the rotates and shifts (R260 to R272), as operations on bytes. -/

namespace Sys2Proof.Machine

/-! ## A byte split at either end -/

theorem ofBool_append_lsbs (x : Byte) : BitVec.ofBool (x.getLsbD 7) ++ x.extractLsb' 0 7 = x :=
  BitVec.cons_msb_setWidth x

theorem msbs_append_ofBool (x : Byte) : x.extractLsb' 1 7 ++ BitVec.ofBool (x.getLsbD 0) = x := by
  apply BitVec.eq_of_getLsbD_eq
  intro i hi
  rw [BitVec.append_ofBool, BitVec.getLsbD_concat, BitVec.getLsbD_extractLsb']
  cases i with
  | zero => rfl
  | succ i =>
    have hlt : i < 7 := by omega
    simp [hlt, Nat.add_comm]

theorem rotateLeft_one_ofBool_append (b : Bool) (y : BitVec 7) :
    (BitVec.ofBool b ++ y : Byte).rotateLeft 1 = y ++ BitVec.ofBool b :=
  (rotateLeft_one_cons b y).trans (BitVec.append_ofBool y b).symm

theorem rotateRight_one_append_ofBool (y : BitVec 7) (b : Bool) :
    (y ++ BitVec.ofBool b : Byte).rotateRight 1 = BitVec.ofBool b ++ y := by
  rw [← rotateLeft_one_ofBool_append]
  exact rotateRight_rotateLeft_one _

/-! ## As operations on bytes

`RL` and `RR` bring in the carry; the other rotates and shifts bring in a bit of their own instead. -/

theorem shiftLeft_one_eq (x : Byte) : x <<< 1 = x.extractLsb' 0 7 ++ 0#1 :=
  BitVec.shiftLeft_eq_concat_of_lt (by decide)
theorem ushiftRight_one_eq (x : Byte) : x >>> 1 = 0#1 ++ x.extractLsb' 1 7 :=
  BitVec.ushiftRight_eq_extractLsb'_of_lt (by decide)

theorem rotData_rl (x : Byte) (carry : Bool) :
    rotData .rl x carry = (x <<< 1 ||| (if carry then 0x01 else 0), x.getLsbD 7) := by
  have hin : (if carry then 0x01 else 0 : Byte) = 0#7 ++ BitVec.ofBool carry := by cases carry <;> rfl
  rw [hin, shiftLeft_one_eq, BitVec.or_append, BitVec.or_zero, BitVec.zero_or, rotData]

theorem rotData_rr (x : Byte) (carry : Bool) :
    rotData .rr x carry = (x >>> 1 ||| (if carry then 0x80 else 0), x.getLsbD 0) := by
  have hin : (if carry then 0x80 else 0 : Byte) = BitVec.ofBool carry ++ 0#7 := by cases carry <;> rfl
  rw [hin, ushiftRight_one_eq, BitVec.or_append, BitVec.or_zero, BitVec.zero_or, rotData]

theorem rotData_sla (x : Byte) (carry : Bool) : rotData .sla x carry = (x <<< 1, x.getLsbD 7) := by
  rw [shiftLeft_one_eq, rotData]

theorem rotData_srl (x : Byte) (carry : Bool) : rotData .srl x carry = (x >>> 1, x.getLsbD 0) := by
  rw [ushiftRight_one_eq, rotData]

theorem rotData_swap (x : Byte) (carry : Bool) : rotData .swap x carry = (x <<< 4 ||| x >>> 4, false) := by
  have hleft : x <<< 4 = x.extractLsb' 0 4 ++ 0#4 := BitVec.shiftLeft_eq_concat_of_lt (by decide)
  have hright : x >>> 4 = 0#4 ++ x.extractLsb' 4 4 := BitVec.ushiftRight_eq_extractLsb'_of_lt (by decide)
  rw [hleft, hright, BitVec.or_append, BitVec.or_zero, BitVec.zero_or, rotData]

theorem rotData_rlc (x : Byte) (carry : Bool) : rotData .rlc x carry = (x.rotateLeft 1, x.getLsbD 7) := by
  have hrot := rotateLeft_one_ofBool_append (x.getLsbD 7) (x.extractLsb' 0 7)
  rw [ofBool_append_lsbs] at hrot
  rw [hrot, rotData]

theorem rotData_rrc (x : Byte) (carry : Bool) : rotData .rrc x carry = (x.rotateRight 1, x.getLsbD 0) := by
  have hrot := rotateRight_one_append_ofBool (x.extractLsb' 1 7) (x.getLsbD 0)
  rw [msbs_append_ofBool] at hrot
  rw [hrot, rotData]

theorem rotData_sra (x : Byte) (carry : Bool) : rotData .sra x carry = (x.sshiftRight 1, x.getLsbD 0) := by
  have hshift : x.sshiftRight 1 = BitVec.ofBool (x.getLsbD 7) ++ x.extractLsb' 1 7 := by
    apply BitVec.eq_of_getLsbD_eq
    intro i hi
    rw [BitVec.getLsbD_sshiftRight, BitVec.getLsbD_append, BitVec.getLsbD_extractLsb', BitVec.getLsbD_ofBool]
    by_cases hlow : i < 7
    · have hlt : 1 + i < 8 := by omega
      simp [hi, hlow, hlt]
    · have htop : i = 7 := by omega
      rw [htop]
      rfl
  rw [hshift, rotData]

end Sys2Proof.Machine
end

section
/-! The rotates and shifts (R260 to R272, R276): the rows of one operation, and the next state of each. -/

namespace Sys2Proof.Machine

/-! ## The rows, their operations and their bytes -/

theorem ofIndex_rotOpCode (op : RotOp) : RotOp.ofIndex op.code = op := by cases op <;> rfl
theorem rotOpCode_lt (op : RotOp) : op.code < 8 := by cases op <;> decide
theorem ofIndex_r8Code (r : R8) : Loc8.ofIndex r.code = .reg r := by cases r <;> rfl
theorem r8Code_lt (r : R8) : r.code < 8 := by cases r <;> decide

theorem ofIndex_loc8Code (x : Loc8) : Loc8.ofIndex x.code = x := by
  cases x with
  | reg r => exact ofIndex_r8Code r
  | memHL => rfl

theorem loc8Code_lt (x : Loc8) : x.code < 8 := by
  cases x with
  | reg r => exact r8Code_lt r
  | memHL => decide

theorem exec_ofRot_reg (op : RotOp) (r : R8) (s : State) :
    exec (Instr.ofRot op (.reg r)) s = rotateLoc op (.reg r) s := by
  cases op <;> cases r <;> rfl

/-- The operation's index and the operand's are fields of the second byte (R157, R276). -/
theorem encode_ofRot_code (op : RotOp) (x : Loc8) :
    encode (Instr.ofRot op x) = [0xCB, byteOf (8 * op.code + x.code)] := by
  have henc := encode_ofRot ⟨op.code, rotOpCode_lt op⟩ ⟨x.code, loc8Code_lt x⟩
  rw [ofIndex_rotOpCode, ofIndex_loc8Code, opcodeOf] at henc
  simpa only [Nat.mul_zero, Nat.zero_add] using henc

/-! ## The next states -/

/-- An accumulator rotate writes the rotated `A`, the flags and the clock over the old state (R260). -/
theorem rotateAcc_eq {op : RotOp} {s : State} {v : Byte} {out : Bool} (h : rotData op s.a s.flagC = (v, out)) :
    rotateAcc op s = .next { s with a := v, f := flagByte false false false out, elapsed := s.elapsed + 4 } := by
  rw [rotateAcc, rotAccOut, h]
  rfl

/-- Settles O40: the four rows are the accumulator rotates of `RLC`, `RRC`, `RL` and `RR`. -/
theorem accumulatorRotates : Obligations.AccumulatorRotates :=
  fun _ => ⟨⟨rfl, rotateAcc_eq (rotData_rlc _ _)⟩, ⟨rfl, rotateAcc_eq (rotData_rrc _ _)⟩,
    ⟨rfl, rotateAcc_eq (rotData_rl _ _)⟩, ⟨rfl, rotateAcc_eq (rotData_rr _ _)⟩⟩

/-- Settles O41: each row computes a value and its flags from the old byte and the carry; the register takes the value, or
one `Write` stores it. -/
theorem extendedRotates : Obligations.ExtendedRotates := by
  intro op s carry res out
  have hdata (x : Byte) : rotData op x s.flagC = (res x, out x) := by
    cases op with
    | rlc => exact rotData_rlc x _
    | rrc => exact rotData_rrc x _
    | rl => exact rotData_rl x _
    | rr => exact rotData_rr x _
    | sla => exact rotData_sla x _
    | sra => exact rotData_sra x _
    | swap => exact rotData_swap x _
    | srl => exact rotData_srl x _
  have hout (x : Byte) : rotOut op x s.flagC = ⟨res x, flagByte (res x == 0) false false (out x)⟩ := by
    rw [rotOut, hdata]
  refine ⟨fun r => ⟨encode_ofRot_code op (.reg r), ?_⟩, encode_ofRot_code op .memHL, ?_⟩
  · rw [exec_ofRot_reg, rotateLoc, hout]
    exact stepClock_setR8_setF r _ _ 8 s
  · rw [exec_ofRot_memHL, rotateLoc, hout]
    exact congrArg _ (stepClock_setF_write 16 s.hl _ _ s)

end Sys2Proof.Machine
end

section
/-! The laws of the rotates and shifts (R277): a run on a register iterates a map of its byte and the carry, and that map is
a rotate or a shift of the byte, or of the nine bits. -/

namespace Sys2Proof.Machine

/-! ## Runs on a register -/

/-- What a rotate or shift makes of the operand and the carry. -/
def rotPair (op : RotOp) (p : Byte × Bool) : Byte × Bool := rotData op p.1 p.2

/-- The operand and the carry of a rotate on a register. -/
def operandAndCarry (r : R8) (s : State) : Byte × Bool := (s.r8 r, s.flagC)

theorem exec_ofRot_rotPair (op : RotOp) (r : R8) (s : State) :
    ∃ t, exec (Instr.ofRot op (.reg r)) s = .next t ∧ operandAndCarry r t = rotPair op (operandAndCarry r s) := by
  obtain ⟨t, ht, hval, hflags, -⟩ :=
    stepClock_setR8_setF r (rotOut op (s.r8 r) s.flagC).value (rotOut op (s.r8 r) s.flagC).flags 8 s
  refine ⟨t, (exec_ofRot_reg op r s).trans ht, Prod.ext hval ?_⟩
  rw [operandAndCarry, State.flagC, hflags]
  exact flagByte_bit4 ..

/-- A run is the iterate of the operation's map, by induction on its length. -/
theorem execTimes_ofRot (op : RotOp) (r : R8) (n : Nat) (s : State) :
    ∃ t, execTimes n (Instr.ofRot op (.reg r)) s = .next t ∧
      operandAndCarry r t = (rotPair op)^[n] (operandAndCarry r s) := by
  induction n generalizing s with
  | zero => exact ⟨s, rfl, rfl⟩
  | succ n ih =>
    obtain ⟨t, ht, hpair⟩ := exec_ofRot_rotPair op r s
    obtain ⟨u, hu, hrun⟩ := ih t
    refine ⟨u, ?_, ?_⟩
    · rw [execTimes, ht]
      exact hu
    · rw [hrun, hpair, Function.iterate_succ_apply]

/-- A run of an operation whose value does not depend on the carry iterates a map of the byte. -/
theorem execTimes_ofRot_value {op : RotOp} {f : Byte → Byte} (h : Function.Semiconj Prod.fst (rotPair op) f) {n : Nat}
    {r : R8} {s : State} {v : Byte} (hv : f^[n] (s.r8 r) = v) :
    ∃ t, execTimes n (Instr.ofRot op (.reg r)) s = .next t ∧ t.r8 r = v := by
  obtain ⟨t, ht, hpair⟩ := execTimes_ofRot op r n s
  refine ⟨t, ht, ?_⟩
  calc t.r8 r = ((rotPair op)^[n] (operandAndCarry r s)).1 := congrArg Prod.fst hpair
    _ = f^[n] (s.r8 r) := (h.iterate_right n).eq _
    _ = v := hv

/-- A run that gives the operand and the carry back. -/
theorem execTimes_ofRot_id {op : RotOp} {n : Nat} (h : ∀ p, (rotPair op)^[n] p = p) (r : R8) (s : State) :
    ∃ t, execTimes n (Instr.ofRot op (.reg r)) s = .next t ∧ t.r8 r = s.r8 r ∧ t.flagC = s.flagC := by
  obtain ⟨t, ht, hpair⟩ := execTimes_ofRot op r n s
  exact ⟨t, ht, Prod.mk.inj (hpair.trans (h _))⟩

/-- One operation and then another. -/
theorem exec_ofRot_ofRot (op op' : RotOp) (r : R8) (s : State) :
    ∃ t u, exec (Instr.ofRot op (.reg r)) s = .next t ∧ exec (Instr.ofRot op' (.reg r)) t = .next u ∧
      operandAndCarry r u = rotPair op' (rotPair op (operandAndCarry r s)) := by
  obtain ⟨t, ht, hpair⟩ := exec_ofRot_rotPair op r s
  obtain ⟨u, hu, hpair'⟩ := exec_ofRot_rotPair op' r t
  exact ⟨t, u, ht, hu, hpair'.trans (congrArg _ hpair)⟩

/-- One operation and its inverse on the operand and the carry. -/
theorem exec_ofRot_inverse {op op' : RotOp} (h : Function.LeftInverse (rotPair op') (rotPair op)) (r : R8) (s : State) :
    ∃ t u, exec (Instr.ofRot op (.reg r)) s = .next t ∧ exec (Instr.ofRot op' (.reg r)) t = .next u ∧
      u.r8 r = s.r8 r ∧ u.flagC = s.flagC := by
  obtain ⟨t, u, ht, hu, hpair⟩ := exec_ofRot_ofRot op op' r s
  exact ⟨t, u, ht, hu, Prod.mk.inj (hpair.trans (h _))⟩

/-- One operation and its inverse on the operand. -/
theorem exec_ofRot_value_inverse {op op' : RotOp} {f g : Byte → Byte} (hf : Function.Semiconj Prod.fst (rotPair op) f)
    (hg : Function.Semiconj Prod.fst (rotPair op') g) (h : Function.LeftInverse g f) (r : R8) (s : State) :
    ∃ t u, exec (Instr.ofRot op (.reg r)) s = .next t ∧ exec (Instr.ofRot op' (.reg r)) t = .next u ∧
      u.r8 r = s.r8 r := by
  obtain ⟨t, u, ht, hu, hpair⟩ := exec_ofRot_ofRot op op' r s
  refine ⟨t, u, ht, hu, ?_⟩
  calc u.r8 r = (rotPair op' (rotPair op (operandAndCarry r s))).1 := congrArg Prod.fst hpair
    _ = g (f (s.r8 r)) := (hg.comp_right hf).eq _
    _ = s.r8 r := h _

/-! ## The rotates and shifts of the byte -/

theorem rotPair_rlc : Function.Semiconj Prod.fst (rotPair .rlc) (·.rotateLeft 1) :=
  fun p => congrArg Prod.fst (rotData_rlc p.1 p.2)
theorem rotPair_rrc : Function.Semiconj Prod.fst (rotPair .rrc) (·.rotateRight 1) :=
  fun p => congrArg Prod.fst (rotData_rrc p.1 p.2)
theorem rotPair_sla : Function.Semiconj Prod.fst (rotPair .sla) (· <<< 1) :=
  fun p => congrArg Prod.fst (rotData_sla p.1 p.2)
theorem rotPair_srl : Function.Semiconj Prod.fst (rotPair .srl) (· >>> 1) :=
  fun p => congrArg Prod.fst (rotData_srl p.1 p.2)
theorem rotPair_sra : Function.Semiconj Prod.fst (rotPair .sra) (·.sshiftRight 1) :=
  fun p => congrArg Prod.fst (rotData_sra p.1 p.2)

/-- `SWAP` is the rotate by half the byte. -/
theorem rotPair_swap : Function.Semiconj Prod.fst (rotPair .swap) (·.rotateLeft 4) :=
  fun p => congrArg Prod.fst (rotData_swap p.1 p.2)

theorem iterate_rotateLeft_four (x : Byte) : (fun y : Byte => y.rotateLeft 4)^[2] x = x :=
  (rotateLeft_add x 4 4).symm.trans (rotateLeft_width x)

theorem iterate_rotateRight_eight (x : Byte) : (fun y : Byte => y.rotateRight 1)^[8] x = x := by
  have hinverse := rotateRight_rotateLeft_one.iterate 8 x
  rwa [iterate_rotateLeft_width] at hinverse

theorem iterate_shiftLeft_eight (x : Byte) : (fun y : Byte => y <<< 1)^[8] x = 0 :=
  (iterate_one_eq BitVec.shiftLeft_zero BitVec.shiftLeft_add 8 x).trans (BitVec.shiftLeft_eq_zero (le_refl 8))

theorem iterate_ushiftRight_eight (x : Byte) : (fun y : Byte => y >>> 1)^[8] x = 0 :=
  (iterate_one_eq BitVec.ushiftRight_zero BitVec.shiftRight_add 8 x).trans (BitVec.ushiftRight_eq_zero (le_refl 8))

theorem iterate_sshiftRight_seven (x : Byte) :
    (fun y : Byte => y.sshiftRight 1)^[7] x = if x.getLsbD 7 then 0xFF else 0 :=
  (iterate_one_eq (fun _ => BitVec.sshiftRight_zero) (fun _ _ _ => BitVec.sshiftRight_add) 7 x).trans
    (sshiftRight_seven x)

/-! ## The rotates of the nine bits (R267, R268) -/

/-- The nine bits `{Cf, x}`. -/
def nineBits (p : Byte × Bool) : BitVec 9 := BitVec.cons p.2 p.1

theorem nineBits_injective : Function.Injective nineBits := by
  intro p q h
  refine Prod.ext ?_ ?_
  · simpa only [nineBits, BitVec.setWidth_cons] using congrArg (BitVec.setWidth 8) h
  · simpa only [nineBits, BitVec.msb_cons] using congrArg BitVec.msb h

/-- `RL` rotates the nine bits. -/
theorem nineBits_rl : Function.Semiconj nineBits (rotPair .rl) (·.rotateLeft 1) := by
  intro ⟨x, carry⟩
  calc nineBits (rotPair .rl (x, carry))
      = BitVec.cons (x.getLsbD 7) (x.extractLsb' 0 7 ++ BitVec.ofBool carry) := rfl
    _ = (BitVec.ofBool (x.getLsbD 7) ++ x.extractLsb' 0 7) ++ BitVec.ofBool carry :=
        (BitVec.cons_append _ _ _).symm
    _ = x.concat carry := by rw [ofBool_append_lsbs, BitVec.append_ofBool]
    _ = (nineBits (x, carry)).rotateLeft 1 := (rotateLeft_one_cons carry x).symm

theorem iterate_rotPair_rl_nine (p : Byte × Bool) : (rotPair .rl)^[9] p = p :=
  nineBits_injective (((nineBits_rl.iterate_right 9).eq p).trans (iterate_rotateLeft_width (nineBits p)))

/-- The bit that `RR` put out is the carry that `RL` brings in. -/
theorem rotPair_rl_rr : Function.LeftInverse (rotPair .rl) (rotPair .rr) := by
  intro ⟨x, carry⟩
  refine Prod.ext ?_ ?_
  · calc (BitVec.ofBool carry ++ x.extractLsb' 1 7).extractLsb' 0 7 ++ BitVec.ofBool (x.getLsbD 0)
        = x.extractLsb' 1 7 ++ BitVec.ofBool (x.getLsbD 0) := by rw [BitVec.extractLsb'_append_eq_right]
      _ = x := msbs_append_ofBool x
  · exact BitVec.msb_cons (x := x.extractLsb' 1 7)

/-- Nine `RL` give everything back, so `RL` is injective, and `RR` undoes it as it undoes `RR`. -/
theorem rotPair_rr_rl : Function.LeftInverse (rotPair .rr) (rotPair .rl) := by
  have hinj : Function.Injective (rotPair .rl) :=
    (Function.LeftInverse.injective iterate_rotPair_rl_nine : Function.Injective (rotPair .rl)^[9]).of_comp
  exact fun p => hinj (rotPair_rl_rr _)

theorem iterate_rotPair_rr_nine (p : Byte × Bool) : (rotPair .rr)^[9] p = p := by
  have hinverse := rotPair_rr_rl.iterate 9 p
  rwa [iterate_rotPair_rl_nine] at hinverse

/-- Settles O42: each run iterates a rotate or a shift by one place, of the byte or of the nine bits. -/
theorem rotateLaws : Obligations.RotateLaws := by
  intro r s
  exact ⟨execTimes_ofRot_value rotPair_rlc (iterate_rotateLeft_width _),
    execTimes_ofRot_value rotPair_rrc (iterate_rotateRight_eight _),
    exec_ofRot_value_inverse rotPair_rlc rotPair_rrc rotateRight_rotateLeft_one r s,
    exec_ofRot_value_inverse rotPair_rrc rotPair_rlc rotateLeft_rotateRight_one r s,
    execTimes_ofRot_id iterate_rotPair_rl_nine r s, execTimes_ofRot_id iterate_rotPair_rr_nine r s,
    exec_ofRot_inverse rotPair_rr_rl r s, exec_ofRot_inverse rotPair_rl_rr r s,
    execTimes_ofRot_value rotPair_sla (iterate_shiftLeft_eight _),
    execTimes_ofRot_value rotPair_srl (iterate_ushiftRight_eight _),
    execTimes_ofRot_value rotPair_sra (iterate_sshiftRight_seven _),
    execTimes_ofRot_value rotPair_swap (iterate_rotateLeft_four _)⟩

end Sys2Proof.Machine
end

section
/-! `BIT`, `RES` and `SET` (R273 to R276): the rows of one operation, the bit they name, and the next state of each. -/

namespace Sys2Proof.Machine

/-! ## The rows, their operations and their bytes -/

theorem exec_ofBit_reg (b : Fin 8) (r : R8) (s : State) : exec (Instr.ofBit b (.reg r)) s = testBit b (.reg r) s := by
  fin_cases b <;> cases r <;> rfl
theorem exec_ofRes_reg (b : Fin 8) (r : R8) (s : State) : exec (Instr.ofRes b (.reg r)) s = clearBit b (.reg r) s := by
  fin_cases b <;> cases r <;> rfl
theorem exec_ofSet_reg (b : Fin 8) (r : R8) (s : State) : exec (Instr.ofSet b (.reg r)) s = assignBit b (.reg r) s := by
  fin_cases b <;> cases r <;> rfl

/-- The bit's number and the operand's index are fields of the second byte (R157, R276). -/
theorem encode_ofBit_code (b : Fin 8) (x : Loc8) :
    encode (Instr.ofBit b x) = [0xCB, byteOf (0x40 + 8 * b.val + x.code)] := by
  have henc := encode_ofBit b ⟨x.code, loc8Code_lt x⟩
  rwa [Fin.ofNat_val_eq_self, ofIndex_loc8Code] at henc
theorem encode_ofRes_code (b : Fin 8) (x : Loc8) :
    encode (Instr.ofRes b x) = [0xCB, byteOf (0x80 + 8 * b.val + x.code)] := by
  have henc := encode_ofRes b ⟨x.code, loc8Code_lt x⟩
  rwa [Fin.ofNat_val_eq_self, ofIndex_loc8Code] at henc
theorem encode_ofSet_code (b : Fin 8) (x : Loc8) :
    encode (Instr.ofSet b x) = [0xCB, byteOf (0xC0 + 8 * b.val + x.code)] := by
  have henc := encode_ofSet b ⟨x.code, loc8Code_lt x⟩
  rwa [Fin.ofNat_val_eq_self, ofIndex_loc8Code] at henc

/-! ## The bit -/

theorem getLsbD_mask (b : Fin 8) (j : Nat) : (1#8 <<< b.val).getLsbD j = decide (b.val = j) := by
  rw [← BitVec.twoPow_eq, BitVec.getLsbD_twoPow, decide_eq_true b.isLt, Bool.true_and]

theorem getLsbD_resetBit (b : Fin 8) (x : Byte) (j : Nat) :
    (resetBit b x).getLsbD j = (x.getLsbD j && !decide (b.val = j)) := by
  rw [resetBit, BitVec.getLsbD_and, BitVec.getLsbD_not, getLsbD_mask]
  by_cases hj : j < 8
  · rw [decide_eq_true hj, Bool.true_and]
  · rw [BitVec.getLsbD_of_ge x j (Nat.not_lt.mp hj), Bool.false_and, Bool.false_and]

theorem getLsbD_setBit (b : Fin 8) (x : Byte) (j : Nat) :
    (setBit b x).getLsbD j = (x.getLsbD j || decide (b.val = j)) := by
  rw [setBit, BitVec.getLsbD_or, getLsbD_mask]

theorem getLsbD_resetBit_self (b : Fin 8) (x : Byte) : (resetBit b x).getLsbD b.val = false := by
  rw [getLsbD_resetBit, decide_eq_true rfl, Bool.not_true, Bool.and_false]
theorem getLsbD_resetBit_other (b : Fin 8) (x : Byte) {j : Nat} (h : j ≠ b.val) :
    (resetBit b x).getLsbD j = x.getLsbD j := by
  rw [getLsbD_resetBit, decide_eq_false h.symm, Bool.not_false, Bool.and_true]
theorem getLsbD_setBit_self (b : Fin 8) (x : Byte) : (setBit b x).getLsbD b.val = true := by
  rw [getLsbD_setBit, decide_eq_true rfl, Bool.or_true]
theorem getLsbD_setBit_other (b : Fin 8) (x : Byte) {j : Nat} (h : j ≠ b.val) :
    (setBit b x).getLsbD j = x.getLsbD j := by
  rw [getLsbD_setBit, decide_eq_false h.symm, Bool.or_false]

/-! ## The next states -/

/-- Settles O43: `BIT` writes the flags; `RES` and `SET` load the register with its byte, one bit changed, or store such a
byte. -/
theorem bitOperations : Obligations.BitOperations := by
  intro b s
  refine ⟨fun x => ⟨encode_ofBit_code b x, ?_⟩, fun r => ⟨encode_ofRes_code b (.reg r), ?_⟩,
    fun r => ⟨encode_ofSet_code b (.reg r), ?_⟩, ⟨?_, ?_⟩, ⟨?_, ?_⟩⟩
  · cases x with
    | reg r => exact exec_ofBit_reg b r s
    | memHL => exact exec_ofBit_memHL b s
  · obtain ⟨t, ht, hval, hrest⟩ := stepClock_setR8_load r (resetBit b (s.r8 r)) 8 s
    exact ⟨t, (exec_ofRes_reg b r s).trans ht, hval ▸ getLsbD_resetBit_self ..,
      fun j hj => hval ▸ getLsbD_resetBit_other _ _ hj, hrest⟩
  · obtain ⟨t, ht, hval, hrest⟩ := stepClock_setR8_load r (setBit b (s.r8 r)) 8 s
    exact ⟨t, (exec_ofSet_reg b r s).trans ht, hval ▸ getLsbD_setBit_self ..,
      fun j hj => hval ▸ getLsbD_setBit_other _ _ hj, hrest⟩
  · rw [encode_ofRes_code]
    exact congrArg (fun k => [0xCB, byteOf k]) (Nat.add_right_comm 0x80 (8 * b.val) 6)
  · rw [exec_ofRes_memHL]
    exact congrArg _ (stepClock_write 16 s.hl _ s)
  · rw [encode_ofSet_code]
    exact congrArg (fun k => [0xCB, byteOf k]) (Nat.add_right_comm 0xC0 (8 * b.val) 6)
  · rw [exec_ofSet_memHL]
    exact congrArg _ (stepClock_write 16 s.hl _ s)

end Sys2Proof.Machine
end

section
/-! Control transfer (R291 to R301): the next state of each jump, call and return, and the bytes of its row. -/

namespace Sys2Proof.Machine

/-! ## The conditional rows, their operations and their bytes -/

theorem exec_ofJpCond (cc : Cond) (nn : Word) (s : State) : exec (Instr.ofJpCond cc nn) s = jumpIf cc nn s := by
  cases cc <;> rfl
theorem exec_ofJrCond (cc : Cond) (e : Byte) (s : State) : exec (Instr.ofJrCond cc e) s = jumpRelIf cc e s := by
  cases cc <;> rfl
theorem exec_ofRetCond (cc : Cond) (s : State) : exec (Instr.ofRetCond cc) s = retIf cc s := by
  cases cc <;> rfl

/-- The condition's index is a field of the opcode, whatever the operand (R151, R156). -/
theorem encode_ofJpCond (cc : Cond) (nn : Word) :
    encode (Instr.ofJpCond cc nn) = [byteOf (0xC2 + 8 * cc.code), lo8 nn, hi8 nn] := by
  cases cc <;> rfl
theorem encode_ofJrCond (cc : Cond) (e : Byte) : encode (Instr.ofJrCond cc e) = [byteOf (0x20 + 8 * cc.code), e] := by
  cases cc <;> rfl
theorem encode_ofCallCond (cc : Cond) (nn : Word) :
    encode (Instr.ofCallCond cc nn) = [byteOf (0xC4 + 8 * cc.code), lo8 nn, hi8 nn] := by
  cases cc <;> rfl
theorem encode_ofRetCond (cc : Cond) : encode (Instr.ofRetCond cc) = [byteOf (0xC0 + 8 * cc.code)] := by
  cases cc <;> rfl
theorem encode_ofRst (y : Fin 8) : encode (Instr.ofRst y) = [byteOf (0xC7 + 8 * y.val)] := by
  fin_cases y <;> rfl

/-! ## The next states -/

/-- Settles O36: every jump writes `PC` at most, and the clock. -/
theorem jumps : Obligations.Jumps := by
  intro s
  exact ⟨fun _ => ⟨rfl, rfl⟩, ⟨rfl, rfl⟩, fun _ => ⟨rfl, rfl⟩,
    fun cc nn => ⟨encode_ofJpCond cc nn, exec_ofJpCond cc nn s⟩,
    fun cc e => ⟨encode_ofJrCond cc e, exec_ofJrCond cc e s⟩, rfl, rfl, rfl, rfl⟩

/-- A call is a push of `PC`, then `PC` and the clock are written over what the two stores left (R296, R301). -/
theorem stepClock_callTo (cost : Nat) (target : Word) (s : State) :
    stepClock cost (callTo target s) =
      { write (s.sp - 1) (hi8 s.pc) (write (s.sp - 2) (lo8 s.pc) { s with sp := s.sp - 2 }) with
        pc := target, elapsed := s.elapsed + cost } := by
  rw [← push_eq]
  exact congrArg (fun t : State => { t with pc := target }) (stepClock_push cost s.pc s)

/-- A restart target is a word whose high byte is 0 (R301). -/
theorem mk16_zero_byteOf (y : Fin 8) : mk16 0 (byteOf (8 * y.val)) = BitVec.ofNat 16 (8 * y.val) := by
  fin_cases y <;> rfl

/-- Settles O37: every call taken is a push of `PC`, a load of `PC` and the clock. -/
theorem calls : Obligations.Calls := by
  intro s pushed
  refine ⟨fun nn => ⟨rfl, congrArg _ (stepClock_callTo 24 nn s)⟩, fun cc nn => ⟨encode_ofCallCond cc nn, ?_⟩,
    fun y => ⟨encode_ofRst y, ?_⟩⟩
  · rw [exec_ofCallCond, callIf, stepClock_callTo]
    rfl
  · rw [exec_ofRst, restart, stepClock_callTo, mk16_zero_byteOf]
    rfl

/-- Settles O38: every return taken loads `PC` with the word at `SP`; `RETI` sets `IME` besides. -/
theorem returns : Obligations.Returns :=
  fun s => ⟨⟨rfl, rfl⟩, ⟨rfl, rfl⟩, fun cc => ⟨encode_ofRetCond cc, exec_ofRetCond cc s⟩⟩

end Sys2Proof.Machine
end

section
/-! The system instructions (R310 to R315) and the two ways a run ends: in the decode failure (R314, R400) or in the refusal
of `STOP` (R313). -/

namespace Sys2Proof.Machine

/-! ## The branches of a step (R430, R436) -/

theorem step_of_idles {s : State} (h : s.gateOpen) (hi : s.idles = true) :
    step s = .next (ppuTimingCheck (stepClock 4 s)) := by
  rw [step_open h, openStep, if_pos hi]

theorem step_eq_runInstr {s : State} (h : s.gateOpen) (hi : s.idles = false) (hd : s.dispatches = false) :
    step s = runInstr (wake s) := by
  rw [step_open h, openStep, hi, hd]
  rfl

/-- An instruction that ends the run is not followed by the timing check. -/
theorem finishStep_of_not_running {t : State} (h : t.status ≠ .running) : finishStep (.next t) = .next t := by
  rw [finishStep, afterInstr, if_neg h]

theorem finishStep_undefinedOpcode (op : Byte) (s : State) : finishStep (undefinedOpcode op s) = undefinedOpcode op s :=
  finishStep_of_not_running (by simp)

theorem finishStep_stopRefused (n : Byte) (s : State) : finishStep (stopRefused n s) = stopRefused n s :=
  finishStep_of_not_running (by simp)

/-! ## The end of a run is for good (R31) -/

theorem step_of_faulted {s : State} {addr : Word} {op : Byte} (h : s.status = .faulted addr op) :
    step s = .fault (.decodeFailure addr op) := by
  rw [step, h]

theorem step_of_refusedStop {s : State} {addr : Word} (h : s.status = .refusedStop addr) :
    step s = .refused (.stopExecuted addr) := by
  rw [step, h]

theorem hostMove_status {s t : State} {m : HostMove} (h : s.hostMove m = some t) : t.status = s.status :=
  (hostMove_effect h).frame.1 .status (by simp)

/-! ## The undefined opcodes -/

/-- An undefined opcode is one byte long (R146, R160). -/
theorem lengthOf_undefined : ∀ op ∈ undefinedOpcodes, lengthOf op = 1 := by decide

/-- The row of an undefined opcode raises the failure of that opcode (R160, R314). -/
theorem exec_decodeParts_undefined {op : Byte} (h : op ∈ undefinedOpcodes) (o8 : Byte) (o16 : Word) (s : State) :
    exec (decodeParts op o8 o16) s = undefinedOpcode op s := by
  simp only [undefinedOpcodes, List.mem_cons, List.not_mem_nil, or_false] at h
  obtain rfl | rfl | rfl | rfl | rfl | rfl | rfl | rfl | rfl | rfl | rfl := h <;> rfl

theorem runInstr_of_undefined {s : State} (h : read s s.pc ∈ undefinedOpcodes) :
    runInstr s = .next { s with pc := s.pc + 1, status := .faulted s.pc (read s s.pc) } := by
  have hexec : exec (fetch s).1 (fetch s).2 = undefinedOpcode (read s s.pc) (advance 1 s) := by
    rw [fetch, lengthOf_undefined _ h]
    exact exec_decodeParts_undefined h _ _ _
  have hpc : s.pc + BitVec.ofNat 16 1 - 1 = s.pc := BitVec.add_sub_cancel _ _
  rw [runInstr, hexec, finishStep_undefinedOpcode, undefinedOpcode, raiseDecodeFailure, advance, hpc]
  rfl

/-- Settles O12: the row fetched raises the failure of its opcode, and a status that no host move writes is what the next
step answers. -/
theorem undefinedFaults : Obligations.UndefinedFaults := by
  rintro s _ hgate hi hd rfl hmem
  refine ⟨?_, fun m t h => step_of_faulted (hostMove_status h)⟩
  rw [step_eq_runInstr hgate hi hd]
  exact runInstr_of_undefined (s := wake s) hmem

/-- Settles O13: all eleven meanings are one operation. -/
theorem undefinedRowsRaise : Obligations.UndefinedRowsRaise := by
  intro s
  have hraise : ∀ op : Byte, undefinedOpcode op s = .next { s with status := .faulted (s.pc - 1) op } := fun _ => rfl
  exact ⟨hraise _, hraise _, hraise _, hraise _, hraise _, hraise _, hraise _, hraise _, hraise _, hraise _, hraise _⟩

/-! ## `STOP` -/

/-- `STOP` takes the byte after it, whatever its value, and refuses at the address of the first (R313). -/
theorem runInstr_of_stop {s : State} (h : read s s.pc = 0x10) :
    runInstr s = .next { s with pc := s.pc + 2, status := .refusedStop s.pc } := by
  have hexec : exec (fetch s).1 (fetch s).2 = stopRefused (read s (s.pc + 1)) (advance 2 s) := by
    rw [fetch, fetchInstr, h]
    rfl
  have hpc : s.pc + BitVec.ofNat 16 2 - 2 = s.pc := BitVec.add_sub_cancel _ _
  rw [runInstr, hexec, finishStep_stopRefused, stopRefused, refuseStop, advance, hpc]
  rfl

/-- Settles O14: the meaning is the refusal, and a status that no host move writes is what the next step answers. -/
theorem stopRefuses : Obligations.StopRefuses := by
  refine fun s n => ⟨rfl, rfl, fun hgate hi hd hop => ⟨?_, fun m t h => step_of_refusedStop (hostMove_status h)⟩⟩
  rw [step_eq_runInstr hgate hi hd]
  exact runInstr_of_stop (s := wake s) hop

/-! ## The enables and the low-power mode -/

/-- Settles O9: with no enabled request a halted machine idles. -/
theorem idleTick : Obligations.IdleTick := by
  intro s hgate hhalt hnone
  have hpend : s.pend = 0 := hnone
  have hidles : s.idles = true := by rw [State.idles, hhalt, hpend]; rfl
  exact step_of_idles hgate hidles

/-- While the master enable is set the latch is empty exactly where no request is enabled and pending (R33). -/
theorem State.latch_eq_none_iff {s : State} (h : s.ime = true) : s.latch = none ↔ s.pend = 0 := by
  simp [State.latch, h]

/-- Settles O39: each row writes one bit of the machine's mode, or none, and the clock; the latch follows the master
enable. -/
theorem systemInstructions : Obligations.SystemInstructions := fun _ =>
  ⟨⟨rfl, rfl⟩, ⟨rfl, rfl, State.latch_of_ime rfl⟩, ⟨rfl, rfl, State.latch_eq_none_iff rfl⟩, rfl, rfl⟩

end Sys2Proof.Machine
end

section
/-! The stores to the picture unit's registers and what a refresh of STAT leaves there (R340 to R342, R346, R366). -/

namespace Sys2Proof.Machine

/-! ## One byte stored -/

theorem State.raw_setRaw_self (s : State) (k : Nat) (v : Byte) : (s.setRaw k v).raw k = v :=
  (State.raw_setRaw s k k v).trans (if_pos rfl)

theorem State.raw_setRaw_ne (s : State) {j k : Nat} (h : j ≠ k) (v : Byte) : (s.setRaw k v).raw j = s.raw j :=
  (State.raw_setRaw s k j v).trans (if_neg h)

/-! ## STAT after a refresh (R346) -/

/-- STAT's mode bits of a visible line (R346). -/
def PpuMode.statCode (m : PpuMode) : Byte :=
  match m with
  | .hblank => 0
  | .spriteSearch => 2
  | .pixelTransfer => 3

/-- STAT's mode bits as a byte (R346). -/
theorem State.statMode_setWidth (s : State) :
    s.statMode.setWidth 8 = if s.lcdOn = false then 0 else if 144 ≤ s.scanline then 1 else s.mode.statCode := by
  unfold State.statMode
  cases s.lcdOn with
  | false => rfl
  | true =>
    by_cases h : 144 ≤ s.scanline
    · simp [h]
    · cases hm : s.mode <;> simp [h, PpuMode.statCode]

/-- The read-only bits of STAT: the coincidence in bit 2, the mode below it (R346). -/
theorem State.statBits_eq (s : State) :
    s.statBits = (if s.scanline = (s.raw 0xFF45).toNat then 4 else 0) ||| s.statMode.setWidth 8 := by
  have h : ∀ (b : Bool) (m : BitVec 2),
      (0#5 ++ BitVec.ofBool b ++ m : Byte) = (if b = true then 4 else 0) ||| m.setWidth 8 := by decide
  rw [State.statBits, h]
  simp only [State.coincidence, beq_iff_eq]

/-- A refresh keeps bits 7:3 of STAT and makes the others current (R62, R346). -/
theorem statRefresh_stat (s : State) :
    (statRefresh s).raw 0xFF41 =
      s.raw 0xFF41 &&& 0xF8 ||| (if s.scanline = (s.raw 0xFF45).toNat then 4 else 0) |||
        (if s.lcdOn = false then 0 else if 144 ≤ s.scanline then 1 else s.mode.statCode) := by
  have hlow : s.statBits &&& 0x07 = s.statBits := by
    have h : s.statBits &&& (0xF8 ||| 0x07) = s.statBits := BitVec.and_allOnes
    rw [BitVec.and_or_distrib_left, s.statBits_high] at h
    exact BitVec.zero_or.symm.trans h
  rw [statRefresh_raw, if_pos rfl, maskedWrite, hlow, s.statBits_eq, s.statMode_setWidth, BitVec.or_assoc]
  rfl

/-- STAT right after an edge of LCDC, which puts the scanline to 0 and leaves LYC and the rest of STAT (R341, R342). -/
theorem statRefresh_stat_restart {s t : State} {on : Bool} {m : PpuMode} (hline : t.scanline = 0)
    (h41 : t.raw 0xFF41 = s.raw 0xFF41) (h45 : t.raw 0xFF45 = s.raw 0xFF45) (hon : t.lcdOn = on) (hm : t.mode = m) :
    (statRefresh t).raw 0xFF41 =
      s.raw 0xFF41 &&& 0xF8 ||| (if s.raw 0xFF45 = 0 then 4 else 0) ||| (if on = false then 0 else m.statCode) := by
  have hzero : 0 = (s.raw 0xFF45).toNat ↔ s.raw 0xFF45 = 0 := by rw [← BitVec.toNat_inj, eq_comm]; rfl
  rw [statRefresh_stat, hline, h41, h45, hon, hm, if_congr hzero rfl rfl]
  rfl

/-! ## Palettes (R366) -/

/-- Settles O50: each palette is decoded from the byte just stored. -/
theorem paletteDecode : Obligations.PaletteDecode := by
  intro v s
  exact ⟨congrArg (fun b => { s.setRaw 0xFF47 v with palBg := palDecode b }) (s.raw_setRaw_self 0xFF47 v),
    congrArg (fun b => { s.setRaw 0xFF48 v with palObj0 := palDecode b }) (s.raw_setRaw_self 0xFF48 v),
    congrArg (fun b => { s.setRaw 0xFF49 v with palObj1 := palDecode b }) (s.raw_setRaw_self 0xFF49 v), rfl, rfl, rfl, rfl⟩

/-! ## LCDC (R340 to R342) -/

theorem write_lcdc (v : Byte) (s : State) : write 0xFF40 v s = lcdcDecode (s.setRaw 0xFF40 v) := rfl

/-- The disable edge (R342). -/
theorem write_lcdc_disable (v : Byte) (s : State) (hon : s.lcdOn = true) (hv : v.getLsbD 7 = false) :
    write 0xFF40 v s = statRefresh { lcdcFlags (s.setRaw 0xFF40 v) with scanline := 0, mode := .hblank } := by
  have hoff : (lcdcFlags (s.setRaw 0xFF40 v)).lcdOn = false := by
    show ((s.setRaw 0xFF40 v).raw 0xFF40).getLsbD 7 = false
    simpa using hv
  rcases lcdcDecode_cases (s.setRaw 0xFF40 v) with ⟨h, -, -⟩ | ⟨-, -, e⟩ | ⟨h, -⟩
  · exact absurd (h.symm.trans hon) nofun
  · exact (write_lcdc v s).trans e
  · exact absurd (hoff.symm.trans (h.trans hon)) nofun

/-- A store to LCDC that leaves the enable as it is decodes the flags and no more (R340). -/
theorem write_lcdc_same (v : Byte) (s : State) (h : s.lcdOn = v.getLsbD 7) :
    write 0xFF40 v s = lcdcFlags (s.setRaw 0xFF40 v) := by
  have hsame : (lcdcFlags (s.setRaw 0xFF40 v)).lcdOn = s.lcdOn := by
    show ((s.setRaw 0xFF40 v).raw 0xFF40).getLsbD 7 = s.lcdOn
    simpa using h.symm
  rcases lcdcDecode_cases (s.setRaw 0xFF40 v) with ⟨h0, h1, -⟩ | ⟨h1, h0, -⟩ | ⟨-, e⟩
  · exact absurd (h1.symm.trans (hsame.trans h0)) nofun
  · exact absurd (h0.symm.trans (hsame.trans h1)) nofun
  · exact (write_lcdc v s).trans e

/-- What a store to LCDC does whatever the edge: the flags are those of the byte, only the byte and STAT change, and the
caches stay (R340). -/
structure LcdcStored (v : Byte) (s t : State) : Prop where
  byte : t.raw 0xFF40 = v
  bgOn : t.bgOn = v.getLsbD 0
  spriteOn : t.spriteOn = v.getLsbD 1
  bgMap : t.bgMap = mapOf (v.getLsbD 3)
  tileUnsigned : t.tileUnsigned = v.getLsbD 4
  winOn : t.winOn = v.getLsbD 5
  winMap : t.winMap = mapOf (v.getLsbD 6)
  lcdOn : t.lcdOn = v.getLsbD 7
  bytes : ∀ k, k ≠ 0xFF40 → k ≠ 0xFF41 → t.raw k = s.raw k
  tiles : t.tiles = s.tiles
  sprites : t.sprites = s.sprites
  palBg : t.palBg = s.palBg
  palObj0 : t.palObj0 = s.palObj0
  palObj1 : t.palObj1 = s.palObj1

theorem lcdcFlags_stored (v : Byte) (s : State) : LcdcStored v s (lcdcFlags (s.setRaw 0xFF40 v)) := by
  have hself : (lcdcFlags (s.setRaw 0xFF40 v)).raw 0xFF40 = v := s.raw_setRaw_self 0xFF40 v
  obtain ⟨h7, h6, h5, h4, h3, h1, h0⟩ := lcdcFlags_inv (s.setRaw 0xFF40 v)
  rw [hself] at h7 h6 h5 h4 h3 h1 h0
  exact ⟨hself, h0, h1, h3, h4, h5, h6, h7, fun k hk _ => s.raw_setRaw_ne hk v, rfl, rfl, rfl, rfl, rfl⟩

theorem write_lcdc_stored (v : Byte) (s : State) : LcdcStored v s (write 0xFF40 v s) := by
  have hbytes := fun k hk => lcdcDecode_raw k (s.setRaw 0xFF40 v) hk
  obtain ⟨byte, h0, h1, h3, h4, h5, h6, h7, bytes, -, -, -, -, -⟩ := lcdcFlags_stored v s
  rw [write_lcdc]
  have hself := (hbytes 0xFF40 (by omega)).trans byte
  have hother := fun k hk hk' => (hbytes k hk').trans (bytes k hk hk')
  rcases lcdcDecode_cases (s.setRaw 0xFF40 v) with ⟨-, -, e⟩ | ⟨-, -, e⟩ | ⟨-, e⟩ <;> rw [e] at hself hother ⊢ <;>
    exact ⟨hself, h0, h1, h3, h4, h5, h6, h7, hother, rfl, rfl, rfl, rfl, rfl⟩

/-! ## LYC (R346) -/

theorem write_lyc (v : Byte) (s : State) : write 0xFF45 v s = statRefresh (s.setRaw 0xFF45 v) := rfl

/-- Settles O49: an edge of LCDC and a store to LYC are a refresh of STAT, and no edge is none. -/
theorem lcdRegisterStores : Obligations.LcdRegisterStores := by
  intro v s
  constructor
  · have hstored := write_lcdc_stored v s
    have hon := (lcdcFlags_stored v s).lcdOn
    have h41 := s.raw_setRaw_ne (show 0xFF41 ≠ 0xFF40 by omega) v
    have h45 := s.raw_setRaw_ne (show 0xFF45 ≠ 0xFF40 by omega) v
    refine ⟨⟨hstored.byte, hstored.bgOn, hstored.spriteOn, hstored.bgMap, hstored.tileUnsigned, hstored.winOn,
      hstored.winMap, hstored.lcdOn⟩, fun hoff hv => ?_, fun hlcd hv => ?_, fun h => ?_, hstored.bytes, hstored.tiles,
      hstored.sprites, hstored.palBg, hstored.palObj0, hstored.palObj1, (write_core 0xFF40 v s).keeps [],
      write_elapsed s 0xFF40 v⟩
    · rw [write_lcdc_enable v s hoff hv]
      exact ⟨rfl, rfl, rfl, Eq.trans (statRefresh_stat_restart rfl h41 h45 (hon.trans hv) rfl) rfl⟩
    · rw [write_lcdc_disable v s hlcd hv]
      exact ⟨rfl, rfl, rfl, rfl, Eq.trans (statRefresh_stat_restart rfl h41 h45 (hon.trans hv) rfl) BitVec.or_zero⟩
    · rw [write_lcdc_same v s h]
      exact ⟨rfl, rfl, rfl, h41⟩
  · rw [write_lyc]
    refine ⟨?_, ?_, fun k hk hk' => ?_, rfl⟩
    · rw [statRefresh_raw, if_neg (by omega), State.raw_setRaw_self]
    · rw [statRefresh_stat, State.raw_setRaw_self, State.raw_setRaw_ne _ (by omega)]
      rfl
    · rw [statRefresh_raw, if_neg hk', State.raw_setRaw_ne _ hk]

end Sys2Proof.Machine
end

section
/-! What each transition of the scanline machine makes of it, of the lines and of IF, and the refresh of STAT after it (R346,
R348 to R354). -/

namespace Sys2Proof.Machine

/-! ## A transition and its requests -/

/-- From one state to the other no byte but IF changed, and the scanline machine, the lines and IF are now these. -/
structure Moves (s t : State) (mode : PpuMode) (line event : Nat) (lines : List (List Shade)) (asked : Byte) : Prop where
  bytes : ∀ k, k ≠ 0xFF0F → t.raw k = s.raw k
  mode : t.mode = mode
  line : t.scanline = line
  event : t.nextEvent = event
  lines : t.lines = lines
  asked : t.raw 0xFF0F = asked

/-- The scanline machine and the lines set, and nothing requested yet. -/
theorem moves_setScan (s : State) (mode : PpuMode) (line event : Nat) (lines : List (List Shade)) :
    Moves s { s with mode := mode, scanline := line, nextEvent := event, lines := lines } mode line event lines
      (s.raw 0xFF0F) :=
  ⟨fun _ _ => rfl, rfl, rfl, rfl, rfl, rfl⟩

section
variable {s t : State} {mode : PpuMode} {line event : Nat} {lines : List (List Shade)} {asked : Byte}

/-- A gated request sets the bit of its line, or nothing (R412). -/
theorem Moves.requestIf (h : Moves s t mode line event lines asked) (b : Bool) (n : Nat) :
    Moves s (requestIf b n t) mode line event lines (asked ||| if b = true then lineBit n else 0) := by
  obtain ⟨hmode, hline, hevent, hlines⟩ := requestIf_machine b n t
  refine ⟨fun k hk => (requestIf_raw b n k t hk).trans (h.bytes k hk), hmode.trans h.mode, hline.trans h.line,
    hevent.trans h.event, hlines.trans h.lines, ?_⟩
  rw [requestIf_raw_if, h.asked]
  cases b with
  | true => rfl
  | false => exact BitVec.or_zero.symm

/-- The check against LYC requests line 1 where the scanline equals it and bit 6 of STAT is set (R353). -/
theorem Moves.lycCheck (h : Moves s t mode line event lines asked) :
    Moves s (lycCheck t) mode line event lines
      (asked ||| if line = (s.raw 0xFF45).toNat ∧ (s.raw 0xFF41).getLsbD 6 = true then 2 else 0) := by
  have hgate : (t.coincidence && t.statBit 6) = true ↔
      line = (s.raw 0xFF45).toNat ∧ (s.raw 0xFF41).getLsbD 6 = true := by
    rw [Bool.and_eq_true, State.coincidence, beq_iff_eq, State.statBit, h.line, h.bytes _ (by omega), h.bytes _ (by omega)]
  have hr := h.requestIf (t.coincidence && t.statBit 6) 1
  rwa [if_congr hgate rfl rfl] at hr

end

theorem toPixelTransfer_moves (s : State) :
    Moves s (toPixelTransfer s) .pixelTransfer s.scanline (s.nextEvent + 172) s.lines
      (s.raw 0xFF0F ||| if (s.raw 0xFF41).getLsbD 3 = true then 2 else 0) :=
  (moves_setScan s .pixelTransfer s.scanline (s.nextEvent + 172) s.lines).requestIf _ 1

theorem toHblank_moves (s : State) :
    Moves s (toHblank s) .hblank s.scanline (s.nextEvent + 204) (s.lines.set s.scanline (composeLine s s.scanline))
      (s.raw 0xFF0F) :=
  moves_setScan s _ _ _ _

/-- A visible line follows (R351). -/
theorem hblankEnd_moves {s : State} (h : s.scanline < 143) :
    Moves s (hblankEnd s) .spriteSearch (s.scanline + 1) (s.nextEvent + 80) s.lines
      (s.raw 0xFF0F ||| (if (s.raw 0xFF41).getLsbD 5 = true then 2 else 0) |||
        if s.scanline + 1 = (s.raw 0xFF45).toNat ∧ (s.raw 0xFF41).getLsbD 6 = true then 2 else 0) := by
  unfold hblankEnd
  dsimp only
  rw [if_pos (by omega)]
  exact ((moves_setScan s .spriteSearch (s.scanline + 1) (s.nextEvent + 80) s.lines).requestIf _ 1).lycCheck

/-- Vertical blank begins and requests line 0 (R351). -/
theorem hblankEnd_moves_vblank {s : State} (h : s.scanline = 143) :
    Moves s (hblankEnd s) .hblank 144 (s.nextEvent + 456) s.lines
      (s.raw 0xFF0F ||| 1 ||| if 144 = (s.raw 0xFF45).toNat ∧ (s.raw 0xFF41).getLsbD 6 = true then 2 else 0) := by
  unfold hblankEnd
  dsimp only
  rw [if_neg (by omega), h]
  exact ((moves_setScan s .hblank 144 (s.nextEvent + 456) s.lines).requestIf true 0).lycCheck

/-- A line of vertical blank follows (R352). -/
theorem vblankLineEnd_moves {s : State} (h : s.scanline < 153) :
    Moves s (vblankLineEnd s) s.mode (s.scanline + 1) (s.nextEvent + 456) s.lines
      (s.raw 0xFF0F ||| if s.scanline + 1 = (s.raw 0xFF45).toNat ∧ (s.raw 0xFF41).getLsbD 6 = true then 2 else 0) := by
  unfold vblankLineEnd
  rw [if_pos h]
  exact (moves_setScan s s.mode (s.scanline + 1) (s.nextEvent + 456) s.lines).lycCheck

/-- The first line follows the last of vertical blank (R352). -/
theorem vblankLineEnd_moves_wrap {s : State} (h : ¬ s.scanline < 153) :
    Moves s (vblankLineEnd s) .spriteSearch 0 (s.nextEvent + 80) s.lines
      (s.raw 0xFF0F ||| (if (s.raw 0xFF41).getLsbD 5 = true then 2 else 0) |||
        if 0 = (s.raw 0xFF45).toNat ∧ (s.raw 0xFF41).getLsbD 6 = true then 2 else 0) := by
  unfold vblankLineEnd
  rw [if_neg h]
  exact ((moves_setScan s .spriteSearch 0 (s.nextEvent + 80) s.lines).requestIf _ 1).lycCheck

/-! ## The timing check -/

theorem ppuTransition_search {s : State} (h : s.scanline < 144) (hm : s.mode = .spriteSearch) :
    ppuTransition s = toPixelTransfer s := by
  rw [ppuTransition, if_neg (by omega), hm]

theorem ppuTransition_pixels {s : State} (h : s.scanline < 144) (hm : s.mode = .pixelTransfer) :
    ppuTransition s = toHblank s := by
  rw [ppuTransition, if_neg (by omega), hm]

theorem ppuTransition_hblank {s : State} (h : s.scanline < 144) (hm : s.mode = .hblank) :
    ppuTransition s = hblankEnd s := by
  rw [ppuTransition, if_neg (by omega), hm]

theorem ppuTransition_vblank {s : State} (h : 144 ≤ s.scanline) : ppuTransition s = vblankLineEnd s := if_pos h

/-- Nothing happens while the LCD is off or no event is due (R348). -/
theorem ppuTimingCheck_of_not_due {s : State} (h : s.lcdOn = false ∨ s.elapsed < s.nextEvent) : ppuTimingCheck s = s := by
  rcases ppuTimingCheck_cases s with ⟨-, e⟩ | ⟨hon, hdue, -⟩
  · exact e
  · rcases h with hoff | hahead
    · exact absurd (hon.symm.trans hoff) nofun
    · omega

/-- An event due is one transition and a refresh of STAT (R348). -/
theorem ppuTimingCheck_of_due {s : State} (hon : s.lcdOn = true) (hdue : s.nextEvent ≤ s.elapsed) :
    ppuTimingCheck s = statRefresh (ppuTransition s) := by
  rw [ppuTimingCheck, hon, if_neg (by decide), if_neg (by omega)]

/-- Whatever the transition, no byte but IF changes before STAT is refreshed (R348). -/
theorem ppuTransition_raw (s : State) {k : Nat} (hk : k ≠ 0xFF0F) : (ppuTransition s).raw k = s.raw k := by
  obtain ⟨u, hu, hr⟩ := ppuTransition_cases s
  rw [hr.raw k hk, State.raw, hu.scan.2, ← State.raw]

theorem ppuTransition_lcdOn (s : State) : (ppuTransition s).lcdOn = s.lcdOn := by
  obtain ⟨u, hu, hr⟩ := ppuTransition_cases s
  exact hr.same.lcdOn.trans hu.scan.1.lcdOn

/-- Two states that agree on everything but memory, the scanline machine and the lines. -/
theorem State.eq_withScan {s t : State} (h : SameButScan s t) :
    t = { s with mem := t.mem, mode := t.mode, scanline := t.scanline, nextEvent := t.nextEvent, lines := t.lines } := by
  rw [← h.a, ← h.f, ← h.b, ← h.c, ← h.d, ← h.e, ← h.h, ← h.l, ← h.sp, ← h.pc, ← h.ime, ← h.halted, ← h.status, ← h.elapsed,
    ← h.budget, ← h.ended, ← h.joypad, ← h.lcdOn, ← h.bgOn, ← h.spriteOn, ← h.winOn, ← h.tileUnsigned, ← h.bgMap,
    ← h.winMap, ← h.tiles, ← h.sprites, ← h.palBg, ← h.palObj0, ← h.palObj1]

/-- The refresh of STAT that ends a timing check leaves what the transition made of the scanline machine and IF. -/
theorem Moves.checked {s t : State} {mode : PpuMode} {line event : Nat} {lines : List (List Shade)} {asked : Byte}
    (h : Moves s t mode line event lines asked) (ht : ppuTransition s = t)
    (hcheck : ppuTimingCheck s = statRefresh (ppuTransition s)) :
    (ppuTimingCheck s).mode = mode ∧ (ppuTimingCheck s).scanline = line ∧ (ppuTimingCheck s).nextEvent = event ∧
      (ppuTimingCheck s).lines = lines ∧ (ppuTimingCheck s).raw 0xFF0F = asked := by
  rw [hcheck, ht]
  exact ⟨h.mode, h.line, h.event, h.lines, by rw [statRefresh_raw, if_neg (by omega), h.asked]⟩

/-- Settles O51: the transition of the scanline and mode, and STAT current after it. -/
theorem timingTransitions : Obligations.TimingTransitions := by
  intro s
  refine ⟨ppuTimingCheck_of_not_due, fun hon hdue => ?_⟩
  have hcheck := ppuTimingCheck_of_due hon hdue
  refine ⟨ppuTimingCheck_raw s, ?_, State.eq_withScan (ppuTimingCheck_scan s), fun hl hm => ?_, fun hl hm => ?_,
    fun hl hm => ?_, fun hl hm => ?_, fun hl hl' => ?_, fun hl => ?_⟩
  · rw [hcheck, statRefresh_stat, ppuTransition_raw s (by omega), ppuTransition_raw s (by omega), ppuTransition_lcdOn, hon]
    rfl
  · exact (toPixelTransfer_moves s).checked (ppuTransition_search hl hm) hcheck
  · exact (toHblank_moves s).checked (ppuTransition_pixels hl hm) hcheck
  · obtain ⟨hmode, hline, hevent, hlines, hasked⟩ :=
      (hblankEnd_moves hl).checked (ppuTransition_hblank (by omega) hm) hcheck
    exact ⟨hmode, hline, hevent, hlines, by rw [hasked, hline]⟩
  · obtain ⟨hmode, hline, hevent, hlines, hasked⟩ :=
      (hblankEnd_moves_vblank hl).checked (ppuTransition_hblank (by omega) hm) hcheck
    exact ⟨hmode, hline, hevent, hlines, by rw [hasked, hline]⟩
  · obtain ⟨hmode, hline, hevent, hlines, hasked⟩ :=
      (vblankLineEnd_moves hl').checked (ppuTransition_vblank hl) hcheck
    exact ⟨hmode, hline, hevent, hlines, by rw [hasked, hline]⟩
  · obtain ⟨hmode, hline, hevent, hlines, hasked⟩ :=
      (vblankLineEnd_moves_wrap (s := s) (by omega)).checked
        (ppuTransition_vblank (by omega)) hcheck
    exact ⟨hmode, hline, hevent, hlines, by rw [hasked, hline]⟩

end Sys2Proof.Machine
end

section
/-! A store into tile data (R360): the row of the tile cache that holds the byte, and no other. -/

namespace Sys2Proof.Machine

/-- A store into tile data is the byte and its row re-decoded (R111, R360). -/
theorem write_tile {ea : Word} (v : Byte) (s : State) (h : 0x8000 ≤ ea.toNat) (h' : ea.toNat < 0x9800) :
    StoreEffect ea.toNat v s (write ea v s) ∧
      write ea v s = { s.setRaw ea.toNat v with
        tiles := s.tiles.set ((ea.toNat - 0x8000) / 16)
          ((s.tiles.getD ((ea.toNat - 0x8000) / 16) []).set ((ea.toNat - 0x8000) % 16 / 2)
            ((s.setRaw ea.toNat v).memTileRow ((ea.toNat - 0x8000) / 16) ((ea.toNat - 0x8000) % 16 / 2))) } := by
  rw [write_eq_writeNoDma ea v s (by bv_omega)]
  have he := writeNoDma_effect ea v s
  refine ⟨he, ?_⟩
  generalize writeNoDma ea v s = t at he ⊢
  cases he with
  | tile => rfl
  | dropped h1 => omega
  | oam h1 | p1 h1 | lcdc h1 | stat h1 | lyc h1 | bgp h1 | obp0 h1 | obp1 h1 => omega
  | plain h1 => omega

section
variable {n r b : Nat} {ea : Word} (hn : n < 384) (hr : r < 8) (hb : b < 2) (hea : ea.toNat = tileRowAddr n r + b)
include hn hr hb hea

theorem write_tile_raw (v : Byte) (s : State) (x : Nat) :
    (write ea v s).raw x = if x = ea.toNat then v else s.raw x := by
  unfold tileRowAddr at hea
  obtain ⟨-, heq⟩ := write_tile v s (ea := ea) (by omega) (by omega)
  rw [heq]
  exact State.raw_setRaw s _ _ _

theorem write_tile_shape (v : Byte) {s : State} (h : ShapeInv s) : ShapeInv (write ea v s) := by
  unfold tileRowAddr at hea
  obtain ⟨he, -⟩ := write_tile v s (ea := ea) (by omega) (by omega)
  exact storeEffect_shape he h

/-- After a store to either byte of a tile row that row is the one memory gives, and every other is as before. -/
theorem write_tile_cachedTileRow (v : Byte) {s : State} (h : ShapeInv s) (n' r' : Nat) :
    (write ea v s).cachedTileRow n' r' =
      if n' = n ∧ r' = r then (write ea v s).memTileRow n r else s.cachedTileRow n' r' := by
  unfold tileRowAddr at hea
  obtain ⟨-, heq⟩ := write_tile v s (ea := ea) (by omega) (by omega)
  rw [heq, show (ea.toNat - 0x8000) / 16 = n by omega, show (ea.toNat - 0x8000) % 16 / 2 = r by omega]
  exact cachedTileRow_setTile (s := s) h hn hr _ n' r'

end

/-- Column `q` of a decoded row: bits `7 - q` of the two planes (R360). -/
theorem tileRow_getD (lo hi : Byte) {q : Nat} (hq : q < 8) :
    (tileRow lo hi).getD q 0 = BitVec.ofBool (hi.getLsbD (7 - q)) ++ BitVec.ofBool (lo.getLsbD (7 - q)) := by
  interval_cases q <;> rfl

/-- Settles O48: whichever plane comes second, the row is decoded from both bytes as they then stand in memory. -/
theorem tileRowDecode : Obligations.TileRowDecode := by
  intro n r lo hi s hn hr hs
  have heven : (BitVec.ofNat 16 (0x8000 + 16 * n + 2 * r)).toNat = tileRowAddr n r + 0 := by
    rw [BitVec.toNat_ofNat, tileRowAddr]
    omega
  have hodd : (BitVec.ofNat 16 (0x8000 + 16 * n + 2 * r) + 1).toNat = tileRowAddr n r + 1 := by
    rw [BitVec.toNat_add, heven, tileRowAddr]
    show (0x8000 + 16 * n + 2 * r + 0 + 1) % 65536 = _
    omega
  dsimp only
  generalize BitVec.ofNat 16 (0x8000 + 16 * n + 2 * r) = even at heven hodd ⊢
  generalize even + 1 = odd at hodd ⊢
  have rawEven := write_tile_raw hn hr (by omega) heven lo
  have rawOdd := write_tile_raw hn hr (by omega) hodd hi
  rw [heven] at rawEven
  rw [hodd] at rawOdd
  have cacheEven := fun s => write_tile_cachedTileRow hn hr (by omega) heven lo (s := s)
  have cacheOdd := fun s => write_tile_cachedTileRow hn hr (by omega) hodd hi (s := s)
  have shapeEven := write_tile_shape hn hr (by omega) heven lo hs
  have shapeOdd := write_tile_shape hn hr (by omega) hodd hi hs
  have row : (write odd hi (write even lo s)).cachedTileRow n r = tileRow lo hi := by
    rw [cacheOdd _ shapeEven, if_pos ⟨rfl, rfl⟩, State.memTileRow, rawOdd, rawOdd, rawEven, rawEven]
    simp
  have row' : (write even lo (write odd hi s)).cachedTileRow n r = tileRow lo hi := by
    rw [cacheEven _ shapeOdd, if_pos ⟨rfl, rfl⟩, State.memTileRow, rawEven, rawEven, rawOdd, rawOdd]
    simp
  refine ⟨fun q hq => ?_, fun q hq => ?_, fun n' r' hne => ?_⟩
  · rw [State.tilePixel, row, tileRow_getD lo hi hq]
  · rw [State.tilePixel, State.tilePixel, row, row']
  · rw [cacheOdd _ shapeEven, if_neg hne, cacheEven _ hs, if_neg hne]

end Sys2Proof.Machine
end

section
/-! The OAM DMA byte by byte (R368): what the first stores of the copy have done, and what the whole of it has. -/

namespace Sys2Proof.Machine

/-! ## One descriptor (R364) -/

theorem Sprite.update_same (sp : Sprite) (k : Nat) (b : Byte) : (sp.update k b).update k b = sp.update k b := by
  match k with
  | 0 | 1 | 2 | _ + 3 => rfl

/-- The four bytes of a descriptor are four separate parts of it. -/
theorem Sprite.update_comm (sp : Sprite) {j k : Nat} (hj : j < 4) (hk : k < 4) (h : j ≠ k) (b c : Byte) :
    (sp.update j b).update k c = (sp.update k c).update j b := by
  interval_cases j <;> interval_cases k <;> simp [Sprite.update] at h ⊢

/-- Nothing of a descriptor is left once all four bytes are stored. -/
theorem Sprite.update_all (sp : Sprite) (b0 b1 b2 b3 : Byte) :
    (((sp.update 0 b0).update 1 b1).update 2 b2).update 3 b3 =
      (((Sprite.zero.update 0 b0).update 1 b1).update 2 b2).update 3 b3 := rfl

/-! ## The first stores of the copy -/

/-- The first `m` stores of the copy from page `v`. -/
def copyBytes (v : Byte) (m : Nat) (s : State) : State :=
  (List.range m).foldl
    (fun s k => writeNoDma (0xFE00#16 + BitVec.ofNat 16 k) (read s (mk16 v 0 + BitVec.ofNat 16 k)) s) s

theorem oamDma_eq_copyBytes (v : Byte) (s : State) : oamDma v s = copyBytes v 160 s := rfl

/-- A store to the DMA register is its byte and then the copy (R76, R368). -/
theorem write_dma (v : Byte) (s : State) : write 0xFF46 v s = copyBytes v 160 (s.setRaw 0xFF46 v) := by
  show oamDma ((s.setRaw 0xFF46 v).raw 0xFF46) (s.setRaw 0xFF46 v) = _
  rw [State.raw_setRaw_self, oamDma_eq_copyBytes]

/-- The next store of the copy: the byte, and its part of the descriptor. -/
theorem copyBytes_succ (v : Byte) {m : Nat} (hm : m < 160) (s : State) :
    copyBytes v (m + 1) s =
      ppuOamWrite (0xFE00 + m)
        ((copyBytes v m s).setRaw (0xFE00 + m) (read (copyBytes v m s) (mk16 v 0 + BitVec.ofNat 16 m))) := by
  have haddr := oamAddr_toNat m hm
  unfold copyBytes
  rw [List.range_succ, List.foldl_append, List.foldl_cons, List.foldl_nil,
    writeNoDma_oam _ _ _ (by omega) (by omega), haddr]

theorem sourceAddr_toNat (v : Byte) {k : Nat} (hk : k < 160) :
    (mk16 v 0 + BitVec.ofNat 16 k).toNat = 256 * v.toNat + k := by
  have hv := v.isLt
  have hpage : (mk16 v 0).toNat = 256 * v.toNat := by
    show (v ++ (0 : Byte)).toNat = _
    rw [BitVec.toNat_append, Nat.shiftLeft_eq, Nat.mul_comm]
    exact Nat.or_zero _
  rw [BitVec.toNat_add, hpage, BitVec.toNat_ofNat]
  omega

/-- What the first `m` stores of the copy from page `v` make of a state: they copied `m` bytes of the page as it was
before, and each is the part of its descriptor it stands for. -/
structure Copied (v : Byte) (s : State) (m : Nat) (t : State) : Prop where
  frame : t = { s with mem := t.mem, sprites := t.sprites }
  memory : MemoryInv t
  sprites : t.sprites.length = 40
  copied : ∀ k < m, t.raw (0xFE00 + k) = read s (mk16 v 0 + BitVec.ofNat 16 k)
  kept : ∀ x, x < 0xFE00 ∨ 0xFE00 + m ≤ x → t.raw x = s.raw x
  decoded : ∀ k < m, (t.sprite (k / 4)).update (k % 4) (t.raw (0xFE00 + k)) = t.sprite (k / 4)

/-- The stores so far have not changed the next byte of the page, be the page OAM itself. -/
theorem Copied.read_source {v : Byte} {s t : State} {m : Nat} (h : Copied v s m t) (hm : m < 160) :
    read t (mk16 v 0 + BitVec.ofNat 16 m) = read s (mk16 v 0 + BitVec.ofNat 16 m) := by
  have hline : t.scanline = s.scanline := by rw [h.frame]
  unfold read
  rw [hline, h.kept _ (by rw [sourceAddr_toNat v hm]; omega)]

/-- A descriptor after a store of one of its bytes, and every other. -/
theorem ppuOamWrite_sprite {s : State} (h : s.sprites.length = 40) {m : Nat} (hm : m < 160) (i : Nat) :
    (ppuOamWrite (0xFE00 + m) s).sprite i =
      if i = m / 4 then (s.sprite (m / 4)).update (m % 4) (s.raw (0xFE00 + m)) else s.sprite i := by
  have hm' : 0xFE00 + m - 0xFE00 = m := by omega
  unfold ppuOamWrite
  dsimp only
  rw [hm', State.sprite, List.getD_eq_getElem?_getD]
  split
  · next hi => rw [hi, List.getElem?_set_self (by omega), Option.getD_some]
  · next hi => rw [List.getElem?_set_ne (Ne.symm hi), ← List.getD_eq_getElem?_getD, ← State.sprite]

theorem Copied.next {v : Byte} {s t : State} {m : Nat} (h : Copied v s m t) (hm : m < 160) :
    Copied v s (m + 1)
      (ppuOamWrite (0xFE00 + m) (t.setRaw (0xFE00 + m) (read t (mk16 v 0 + BitVec.ofNat 16 m)))) := by
  rw [h.read_source hm]
  generalize hb : read s (mk16 v 0 + BitVec.ofNat 16 m) = b
  have hraw : ∀ x, (ppuOamWrite (0xFE00 + m) (t.setRaw (0xFE00 + m) b)).raw x = if x = 0xFE00 + m then b else t.raw x :=
    fun x => State.raw_setRaw t _ _ _
  have hsprite : ∀ i, (ppuOamWrite (0xFE00 + m) (t.setRaw (0xFE00 + m) b)).sprite i =
      if i = m / 4 then (t.sprite (m / 4)).update (m % 4) b else t.sprite i := by
    intro i
    rw [ppuOamWrite_sprite (s := t.setRaw (0xFE00 + m) b) h.sprites hm, State.raw_setRaw_self]
    rfl
  refine ⟨?_, setRaw_memory _ _ (by omega) h.memory, ?_, fun k hk => ?_, fun x hx => ?_, fun k hk => ?_⟩
  · conv_lhs => rw [h.frame]
    rfl
  · exact List.length_set.trans h.sprites
  · rw [hraw]
    split
    · next he => rw [← hb, show k = m by omega]
    · next he => exact h.copied k (by omega)
  · rw [hraw, if_neg (by omega), h.kept x (by omega)]
  · rw [hraw, hsprite]
    obtain hlast | hbefore : k = m ∨ k < m := by omega
    · rw [hlast, if_pos rfl, if_pos rfl, Sprite.update_same]
    · rw [if_neg (show ¬ 0xFE00 + k = 0xFE00 + m by omega)]
      split
      · next hi =>
        rw [Sprite.update_comm _ (by omega) (by omega) (by omega), ← hi, h.decoded k hbefore]
      · exact h.decoded k hbefore

theorem copyBytes_copied (v : Byte) {s : State} (hmem : MemoryInv s) (hlen : s.sprites.length = 40) {m : Nat}
    (hm : m ≤ 160) : Copied v s m (copyBytes v m s) := by
  induction m with
  | zero =>
    exact ⟨rfl, hmem, hlen, fun k hk => absurd hk (by omega), fun _ _ => rfl, fun k hk => absurd hk (by omega)⟩
  | succ m ih =>
    rw [copyBytes_succ v hm]
    exact (ih (by omega)).next hm

/-! ## The whole copy -/

section
variable {v : Byte} {s t : State} (h : Copied v s 160 t)
include h

/-- The sprite table is decoded from the copied bytes. -/
theorem Copied.sprite_eq_memSprite {i : Nat} (hi : i < 40) : t.sprite i = t.memSprite i := by
  have hpart : ∀ j < 4, (t.sprite i).update j (t.raw (0xFE00 + 4 * i + j)) = t.sprite i := by
    intro j hj
    have hd := h.decoded (4 * i + j) (by omega)
    rwa [show (4 * i + j) / 4 = i by omega, show (4 * i + j) % 4 = j by omega, ← Nat.add_assoc] at hd
  have hall := Sprite.update_all (t.sprite i) (t.raw (0xFE00 + 4 * i + 0)) (t.raw (0xFE00 + 4 * i + 1))
    (t.raw (0xFE00 + 4 * i + 2)) (t.raw (0xFE00 + 4 * i + 3))
  rwa [hpart 0 (by omega), hpart 1 (by omega), hpart 2 (by omega), hpart 3 (by omega)] at hall

theorem Copied.read_oam {k : Nat} (hk : k < 160) :
    read t (0xFE00 + BitVec.ofNat 16 k) = read s (mk16 v 0 + BitVec.ofNat 16 k) := by
  have haddr : (0xFE00 + BitVec.ofNat 16 k : Word).toNat = 0xFE00 + k := oamAddr_toNat k hk
  rw [read, if_neg (by bv_omega), haddr, h.copied k hk]

/-- The page reads after the copy as it did before, be it OAM itself. -/
theorem Copied.read_page {k : Nat} (hk : k < 160) :
    read t (mk16 v 0 + BitVec.ofNat 16 k) = read s (mk16 v 0 + BitVec.ofNat 16 k) := by
  have hline : t.scanline = s.scanline := by rw [h.frame]
  have haddr := sourceAddr_toNat v hk
  by_cases hv : v.toNat = 0xFE
  · have hself : mk16 v 0 + BitVec.ofNat 16 k = 0xFE00 + BitVec.ofNat 16 k := by
      have hdest : (0xFE00 + BitVec.ofNat 16 k : Word).toNat = 0xFE00 + k := oamAddr_toNat k hk
      exact BitVec.eq_of_toNat_eq (by omega)
    have hcopied := h.read_oam hk
    rwa [← hself] at hcopied
  · unfold read
    rw [hline, h.kept _ (by omega)]

/-- The same copy again changes nothing: it finds the same page, and OAM as it leaves it (R368). -/
theorem Copied.again {u : State} (h' : Copied v t 160 u) : u = t := by
  have hraw : ∀ x, u.raw x = t.raw x := by
    intro x
    by_cases hx : x < 0xFE00 ∨ 0xFE00 + 160 ≤ x
    · exact h'.kept x hx
    · obtain ⟨k, hk, rfl⟩ : ∃ k < 160, x = 0xFE00 + k := ⟨x - 0xFE00, by omega, by omega⟩
      rw [h'.copied k hk, h.read_page hk, h.copied k hk]
  have hmem : u.mem = t.mem := Memory.ext_of_wf h'.memory h.memory hraw
  have hsprites : u.sprites = t.sprites := by
    refine List.ext_getElem (h'.sprites.trans h.sprites.symm) fun i hu ht => ?_
    have hi : i < 40 := by rwa [← h'.sprites]
    have he : u.sprite i = t.sprite i := by
      rw [h'.sprite_eq_memSprite hi, h.sprite_eq_memSprite hi, State.memSprite_congr i fun _ _ => hraw _]
    rwa [State.sprite, State.sprite, List.getD_eq_getElem _ _ hu, List.getD_eq_getElem _ _ ht] at he
  have hframe := h'.frame
  rwa [hmem, hsprites] at hframe

end

/-- Storing the byte that is there changes nothing. -/
theorem setRaw_eq_self {s : State} {k : Nat} {v : Byte} (hmem : MemoryInv s) (hk : k < 65536) (h : s.raw k = v) :
    s.setRaw k v = s := by
  have hsame : Memory.set s.mem k v = s.mem := by
    refine Memory.ext_of_wf (setRaw_memory k v hk hmem) hmem fun x => ?_
    rw [Memory.get_set]
    split
    · next hx => rw [hx, ← h, State.raw]
    · rfl
  rw [State.setRaw, hsame]

/-- Settles O47: the copy, and the same copy from the state it leaves. -/
theorem oamDmaCopies : Obligations.OamDmaCopies := by
  intro v s hmem hlen
  have h := copyBytes_copied v (setRaw_memory 0xFF46 v (by omega) hmem) hlen (m := 160) (by omega)
  rw [← write_dma] at h
  have huntouched := read_write_of_untouched 0xFF46 v s
  generalize write 0xFF46 v s = t at h huntouched ⊢
  have hreg : t.raw 0xFF46 = v := (h.kept 0xFF46 (by omega)).trans (s.raw_setRaw_self 0xFF46 v)
  have hagain := copyBytes_copied v h.memory h.sprites (m := 160) (by omega)
  refine ⟨fun k hk => h.read_oam hk, hreg, fun i hi => h.sprite_eq_memSprite hi, huntouched, h.frame, ?_⟩
  rw [write_dma, setRaw_eq_self h.memory (by omega) hreg]
  exact h.again hagain

end Sys2Proof.Machine
end

section
/-! One pass of sprites (R374, R375): which are drawn and in what order, and which of them shows at a pixel. -/

namespace Sys2Proof.Machine

/-! ## The sprites of a pass, in drawing order -/

theorem mem_insertSprite {p q : Nat × Sprite} {list : List (Nat × Sprite)} :
    q ∈ insertSprite p list ↔ q = p ∨ q ∈ list := by
  induction list with
  | nil => simp [insertSprite]
  | cons r rest ih =>
    unfold insertSprite
    split
    · exact List.mem_cons
    · rw [List.mem_cons, ih, List.mem_cons, or_left_comm]

theorem mem_foldr_insertSprite {q : Nat × Sprite} {list : List (Nat × Sprite)} :
    q ∈ list.foldr insertSprite [] ↔ q ∈ list := by
  induction list with
  | nil => rfl
  | cons p rest ih => rw [List.foldr_cons, mem_insertSprite, ih, List.mem_cons]

theorem Sprite.covers_iff (sp : Sprite) (ly : Nat) :
    sp.covers ly = true ↔ sp.y.toNat ≤ ly + 16 ∧ ly + 16 < sp.y.toNat + 8 := by
  rw [Sprite.covers, Bool.and_eq_true, decide_eq_true_eq, decide_eq_true_eq]

/-- The sprites of a pass are those of the sprite table that belong to it and cover the line (R374). -/
theorem mem_spritesOfLine {s : State} {ly : Nat} {behind : Bool} {p : Nat × Sprite} :
    p ∈ spritesOfLine s ly behind ↔
      p.1 < 40 ∧ p.2 = s.sprite p.1 ∧ p.2.behind = behind ∧ p.2.y.toNat ≤ ly + 16 ∧ ly + 16 < p.2.y.toNat + 8 := by
  have hnumbered : p ∈ (List.range 40).map (fun i => (i, s.sprite i)) ↔ p.1 < 40 ∧ p.2 = s.sprite p.1 := by
    simp only [List.mem_map, List.mem_range]
    constructor
    · rintro ⟨i, hi, rfl⟩
      exact ⟨hi, rfl⟩
    · rintro ⟨hi, he⟩
      exact ⟨p.1, hi, Prod.ext rfl he.symm⟩
  rw [spritesOfLine, mem_foldr_insertSprite, List.mem_filter, hnumbered, Bool.and_eq_true, beq_iff_eq, Sprite.covers_iff,
    and_assoc]

theorem drawnBefore_iff (p q : Nat × Sprite) :
    drawnBefore p q = true ↔ p.2.x.toNat < q.2.x.toNat ∨ (p.2.x.toNat = q.2.x.toNat ∧ q.1 < p.1) := by
  simp [drawnBefore, BitVec.toNat_inj]

/-- No sprite of the list is to be drawn before one that stands earlier. -/
def InDrawingOrder (list : List (Nat × Sprite)) : Prop := list.Pairwise fun p q => drawnBefore q p = false

theorem insertSprite_inDrawingOrder (p : Nat × Sprite) {list : List (Nat × Sprite)} (h : InDrawingOrder list) :
    InDrawingOrder (insertSprite p list) := by
  unfold InDrawingOrder at h ⊢
  simp only [← Bool.not_eq_true, drawnBefore_iff] at h ⊢
  induction list with
  | nil => exact List.pairwise_singleton _ p
  | cons q rest ih =>
    obtain ⟨hq, hrest⟩ := List.pairwise_cons.mp h
    unfold insertSprite
    split
    · next hpq =>
      rw [drawnBefore_iff] at hpq
      refine List.pairwise_cons.mpr ⟨fun r hr => ?_, h⟩
      obtain rfl | hr := List.mem_cons.mp hr
      · omega
      · have := hq r hr
        omega
    · next hpq =>
      rw [drawnBefore_iff] at hpq
      refine List.pairwise_cons.mpr ⟨fun r hr => ?_, ih hrest⟩
      obtain rfl | hr := mem_insertSprite.mp hr
      · exact hpq
      · exact hq r hr

theorem spritesOfLine_inDrawingOrder (s : State) (ly : Nat) (behind : Bool) :
    InDrawingOrder (spritesOfLine s ly behind) := by
  unfold spritesOfLine
  refine List.foldrRecOn _ _ List.Pairwise.nil fun list h p _ => insertSprite_inDrawingOrder p h

/-! ## One pixel -/

/-- One sprite at one pixel: its shade where its colour there is not 0 (R374). -/
theorem drawSprite_getD (s : State) (ly : Nat) (sp : Sprite) (row : List Shade) {k : Nat} (hk : k < row.length) :
    (drawSprite s ly sp row).getD k 0 = if s.spriteColour ly sp k = 0 then row.getD k 0 else s.spriteShade ly sp k := by
  unfold drawSprite
  rw [mapRow_getD _ _ _ hk]
  unfold State.spriteShade State.spriteColour
  by_cases hcol : sp.x.toNat ≤ k ∧ k < sp.x.toNat + 8
  · rw [if_pos hcol, if_pos hcol]
  · rw [if_neg hcol, if_neg hcol, if_pos rfl]

/-- A pixel that has a shade keeps it, where every sprite drawn is transparent there or has that shade. -/
theorem foldl_drawSprite_getD {s : State} {ly k : Nat} {c : Shade} {ps : List (Nat × Sprite)} {row : List Shade}
    (hk : k < row.length) (hrow : row.getD k 0 = c)
    (h : ∀ p ∈ ps, s.spriteColour ly p.2 k ≠ 0 → s.spriteShade ly p.2 k = c) :
    (ps.foldl (fun row p => drawSprite s ly p.2 row) row).getD k 0 = c := by
  induction ps generalizing row with
  | nil => exact hrow
  | cons p ps ih =>
    refine ih (by rwa [drawSprite_length]) ?_ fun q hq => h q (List.mem_cons_of_mem p hq)
    rw [drawSprite_getD s ly p.2 row hk]
    split
    · exact hrow
    · next hopaque => exact h p List.mem_cons_self hopaque

/-- A pixel that no sprite of the pass covers opaquely stays (R374). -/
theorem drawSprites_getD_of_none {s : State} {ly k : Nat} {behind : Bool} {row : List Shade} (hk : k < row.length)
    (h : s.NoSpriteAt ly k behind) : (drawSprites s ly behind row).getD k 0 = row.getD k 0 :=
  foldl_drawSprite_getD hk rfl fun p hp hopaque => absurd (h p hp) hopaque

/-- An opaque sprite drawn after the top one is the top one: a larger `x` or a lower index would have been drawn later
(R375). -/
theorem State.TopSprite.eq_of_drawn_after {s : State} {ly k : Nat} {behind : Bool} {w q : Nat × Sprite}
    (h : s.TopSprite ly k behind w) (hq : q ∈ spritesOfLine s ly behind) (hopaque : s.spriteColour ly q.2 k ≠ 0)
    (hafter : drawnBefore q w = false) : q = w := by
  obtain ⟨hw, -, htop⟩ := h
  obtain ⟨-, hqs, -⟩ := mem_spritesOfLine.mp hq
  obtain ⟨-, hws, -⟩ := mem_spritesOfLine.mp hw
  rw [← Bool.not_eq_true, drawnBefore_iff] at hafter
  have hindex : q.1 = w.1 := by
    obtain hlt | ⟨heq, hle⟩ := htop q hq hopaque
    · omega
    · rw [heq] at hafter
      omega
  exact Prod.ext hindex (by rw [hqs, hws, hindex])

/-- The top sprite of the pass shows (R375). -/
theorem drawSprites_getD_of_top {s : State} {ly k : Nat} {behind : Bool} {row : List Shade} {w : Nat × Sprite}
    (hk : k < row.length) (h : s.TopSprite ly k behind w) :
    (drawSprites s ly behind row).getD k 0 = s.spriteShade ly w.2 k := by
  obtain ⟨hw, hopaque, -⟩ := id h
  obtain ⟨earlier, later, hsplit⟩ := List.append_of_mem hw
  have hafter : ∀ q ∈ later, drawnBefore q w = false := by
    have horder := spritesOfLine_inDrawingOrder s ly behind
    rw [InDrawingOrder, hsplit, List.pairwise_append, List.pairwise_cons] at horder
    exact horder.2.1.1
  have hlength : k < (earlier.foldl (fun row p => drawSprite s ly p.2 row) row).length := by
    refine List.foldlRecOn (motive := fun row : List Shade => k < row.length) _ _ hk fun row hrow p _ => ?_
    rwa [drawSprite_length]
  rw [drawSprites, hsplit, List.foldl_append, List.foldl_cons]
  refine foldl_drawSprite_getD (by rwa [drawSprite_length]) ?_ fun q hq hq' => ?_
  · rw [drawSprite_getD s ly w.2 _ hlength, if_neg hopaque]
  · have hmem : q ∈ spritesOfLine s ly behind := by
      rw [hsplit]
      exact List.mem_append_right _ (List.mem_cons_of_mem w hq)
    rw [h.eq_of_drawn_after hmem hq' (hafter q hq)]

/-- Settles O53: the sprites are drawn in rising priority, so the last opaque one shows. -/
theorem spritePriority : Obligations.SpritePriority := by
  intro s ly k behind row hrow hk
  have hk' : k < row.length := by omega
  exact ⟨fun p => mem_spritesOfLine, drawSprites_getD_of_none hk',
    fun w hw hopaque htop => drawSprites_getD_of_top hk' ⟨hw, hopaque, htop⟩⟩

end Sys2Proof.Machine
end

section
/-! A rendered line pixel by pixel: the two planes, and the sprites under and over them (R370 to R376). -/

namespace Sys2Proof.Machine

/-! ## The two planes -/

/-- The colour of the scrolled, wrapping background at a pixel (R372). -/
def State.scrolledColour (s : State) (ly k : Nat) : Colour :=
  s.planeColour s.bgMap ((k - 8 + (s.raw 0xFF43).toNat) % 256) ((ly + (s.raw 0xFF42).toNat) % 256)

/-- The colour of the window at a pixel it reaches (R373). -/
def State.windowColour (s : State) (ly k : Nat) : Colour :=
  s.planeColour s.winMap (k - ((s.raw 0xFF4B).toNat + 1)) (ly - (s.raw 0xFF4A).toNat)

/-- One pixel of the background: in the margins, and where its colour is 0, what is there (R372). -/
theorem drawBackground_getD (s : State) (ly : Nat) (row : List Shade) {k : Nat} (hk : k < row.length) :
    (drawBackground s ly row).getD k 0 =
      if 8 ≤ k ∧ k < 168 then if s.scrolledColour ly k = 0 then row.getD k 0 else s.palBg.shade (s.scrolledColour ly k)
      else row.getD k 0 := by
  unfold drawBackground
  rw [mapRow_getD _ _ _ hk]
  rfl

/-- One pixel of the window: in the margins, and left of it, what is there (R373). -/
theorem drawWindow_getD (s : State) (ly : Nat) (row : List Shade) {k : Nat} (hk : k < row.length) :
    (drawWindow s ly row).getD k 0 =
      if 8 ≤ k ∧ k < 168 ∧ (s.raw 0xFF4B).toNat + 1 ≤ k then s.palBg.shade (s.windowColour ly k) else row.getD k 0 := by
  unfold drawWindow
  rw [mapRow_getD _ _ _ hk]
  rfl

/-- The background, where it is on (R371). -/
def backgroundLayer (s : State) (ly : Nat) (row : List Shade) : List Shade := if s.bgOn then drawBackground s ly row else row

/-- The window, where it is on and the line reaches it (R371). -/
def windowLayer (s : State) (ly : Nat) (row : List Shade) : List Shade :=
  if s.winOn && decide ((s.raw 0xFF4A).toNat ≤ ly) then drawWindow s ly row else row

/-- The two planes, back to front (R371). -/
def drawPlanes (s : State) (ly : Nat) (row : List Shade) : List Shade := windowLayer s ly (backgroundLayer s ly row)

/-- The planes between the two passes of sprites, where sprites are on (R371). -/
theorem composeLine_eq (s : State) (ly : Nat) :
    composeLine s ly =
      if s.spriteOn = true then
        drawSprites s ly false (drawPlanes s ly (drawSprites s ly true (List.replicate 176 s.palBg.p0)))
      else drawPlanes s ly (List.replicate 176 s.palBg.p0) := by
  unfold composeLine
  cases s.spriteOn <;> rfl

@[simp] theorem backgroundLayer_length (s : State) (ly : Nat) (row : List Shade) :
    (backgroundLayer s ly row).length = row.length := by
  unfold backgroundLayer
  split
  · exact drawBackground_length s ly row
  · rfl

@[simp] theorem drawPlanes_length (s : State) (ly : Nat) (row : List Shade) : (drawPlanes s ly row).length = row.length := by
  unfold drawPlanes windowLayer
  split
  · rw [drawWindow_length, backgroundLayer_length]
  · exact backgroundLayer_length s ly row

theorem backgroundLayer_getD (s : State) (ly : Nat) (row : List Shade) {k : Nat} (hk : k < row.length) :
    (backgroundLayer s ly row).getD k 0 =
      if (8 ≤ k ∧ k < 168) ∧ s.bgOn = true ∧ s.scrolledColour ly k ≠ 0 then s.palBg.shade (s.scrolledColour ly k)
      else row.getD k 0 := by
  unfold backgroundLayer
  cases s.bgOn with
  | false => simp
  | true =>
    rw [if_pos rfl, drawBackground_getD s ly row hk]
    by_cases hin : 8 ≤ k ∧ k < 168 <;> by_cases hclear : s.scrolledColour ly k = 0 <;> simp [hin, hclear]

theorem windowLayer_getD (s : State) (ly : Nat) (row : List Shade) {k : Nat} (hk : k < row.length) :
    (windowLayer s ly row).getD k 0 =
      if (8 ≤ k ∧ k < 168) ∧ s.winOn = true ∧ (s.raw 0xFF4A).toNat ≤ ly ∧ (s.raw 0xFF4B).toNat + 1 ≤ k then
        s.palBg.shade (s.windowColour ly k)
      else row.getD k 0 := by
  unfold windowLayer
  by_cases hreach : s.winOn = true ∧ (s.raw 0xFF4A).toNat ≤ ly
  · obtain ⟨hon, hline⟩ := hreach
    rw [hon, decide_eq_true hline, Bool.and_self, if_pos rfl, drawWindow_getD s ly row hk]
    exact if_congr (by simp [hline, and_assoc]) rfl rfl
  · rw [if_neg (by simpa using hreach), if_neg fun h => hreach ⟨h.2.1, h.2.2.1⟩]

/-- What the two planes make of the shade under them at a pixel: the window hides it with every colour, the background with
every colour but 0 (R372, R373). -/
def State.planesOver (s : State) (ly k : Nat) (under : Shade) : Shade :=
  if k < 8 ∨ 168 ≤ k then under
  else if s.winOn = true ∧ (s.raw 0xFF4A).toNat ≤ ly ∧ (s.raw 0xFF4B).toNat + 1 ≤ k then s.palBg.shade (s.windowColour ly k)
  else if s.bgOn = true ∧ s.scrolledColour ly k ≠ 0 then s.palBg.shade (s.scrolledColour ly k)
  else under

theorem drawPlanes_getD (s : State) (ly : Nat) (row : List Shade) {k : Nat} (hk : k < row.length) :
    (drawPlanes s ly row).getD k 0 = s.planesOver ly k (row.getD k 0) := by
  rw [drawPlanes, windowLayer_getD s ly _ (by rwa [backgroundLayer_length]), backgroundLayer_getD s ly row hk,
    State.planesOver]
  by_cases hin : 8 ≤ k ∧ k < 168
  · rw [if_neg (show ¬ (k < 8 ∨ 168 ≤ k) by omega)]
    exact if_congr (and_iff_right hin) rfl (if_congr (and_iff_right hin) rfl rfl)
  · rw [if_pos (show k < 8 ∨ 168 ≤ k by omega), if_neg fun h => hin h.1, if_neg fun h => hin h.1]

/-! ## The whole line -/

/-- The number of a tile, the signed one counted from 256 (R376). -/
theorem State.tileIndex_eq (s : State) (n : Byte) :
    s.tileIndex n = if s.tileUnsigned = true then n.toNat else (256 + n.toInt).toNat := by
  unfold State.tileIndex
  split
  · rfl
  · rw [BitVec.toInt_eq_toNat_cond]
    have := n.isLt
    split <;> split <;> omega

theorem renderLine_getD_self {s : State} {ly : Nat} (h : ly < s.lines.length) :
    (renderLine ly s).lines.getD ly [] = composeLine s ly := by
  rw [renderLine, List.getD_eq_getElem?_getD, List.getElem?_set_self h, Option.getD_some]

theorem renderLine_getD_ne (s : State) {ly j : Nat} (h : j ≠ ly) :
    (renderLine ly s).lines.getD j [] = s.lines.getD j [] := by
  rw [renderLine, List.getD_eq_getElem?_getD, List.getElem?_set_ne (Ne.symm h), ← List.getD_eq_getElem?_getD]

/-- Settles O52: front sprites over the planes, the planes over "behind" sprites, those over `pal_bg[0]`. -/
theorem backgroundAndWindow : Obligations.BackgroundAndWindow := by
  intro s ly k hly hk hlen
  refine ⟨?_, fun j hj => renderLine_getD_ne s hj⟩
  intro tile plane scrolled planes pixel
  have hplane : plane = s.planeColour := by
    funext m x y
    unfold State.planeColour State.mapByte
    rw [State.tileIndex_eq]
    cases m <;> rfl
  have hplanes : planes = s.planesOver ly k := by
    funext under
    by_cases hmargin : k < 8 ∨ 168 ≤ k
    · exact (if_pos hmargin).trans (if_pos hmargin).symm
    · have hreach : (s.raw 0xFF4B).toNat ≤ k - 8 + 7 ↔ (s.raw 0xFF4B).toNat + 1 ≤ k := by omega
      have hcolumn : k - 8 + 7 - (s.raw 0xFF4B).toNat = k - ((s.raw 0xFF4B).toNat + 1) := by omega
      simp only [planes, scrolled, hplane, hreach, hcolumn, State.planesOver]
      rfl
  have hpixel : pixel = (composeLine s ly).getD k 0 := congrArg (·.getD k 0) (renderLine_getD_self (by omega))
  have hbase : (List.replicate 176 s.palBg.p0).getD k 0 = s.palBg.p0 := List.getD_replicate _ hk
  have hlength : k < (List.replicate 176 s.palBg.p0).length := by rwa [List.length_replicate]
  have hlength' : k < (drawSprites s ly true (List.replicate 176 s.palBg.p0)).length := by rwa [drawSprites_length]
  rw [hpixel, hplanes, composeLine_eq]
  refine ⟨fun hoff => ?_, fun hon => ⟨fun w hw => ?_, fun hnone => ⟨fun w hw => ?_, fun hnone' => ?_⟩⟩⟩
  · rw [if_neg (by rw [hoff]; nofun), drawPlanes_getD s ly _ hlength, hbase]
  all_goals rw [if_pos hon]
  · exact drawSprites_getD_of_top (by rwa [drawPlanes_length]) hw
  · rw [drawSprites_getD_of_none (by rwa [drawPlanes_length]) hnone, drawPlanes_getD s ly _ hlength',
      drawSprites_getD_of_top hlength hw]
  · rw [drawSprites_getD_of_none (by rwa [drawPlanes_length]) hnone, drawPlanes_getD s ly _ hlength',
      drawSprites_getD_of_none hlength hnone', hbase]

end Sys2Proof.Machine
end

section
/-! What a step charges and where it goes (R420, R430, R431, R436). -/

namespace Sys2Proof.Machine

/-! ## The three kinds of step -/

theorem step_of_dispatches {s : State} (h : s.gateOpen) (hi : s.idles = false) (hd : s.dispatches = true) :
    step s = .next (ppuTimingCheck (dispatch (wake s))) := by
  rw [step_open h, openStep, hi, hd]
  rfl

/-- Every instruction answers a next state. -/
theorem exec_total (i : Instr) (s : State) : ∃ t, exec i s = .next t := by
  obtain ⟨u, c, h, -⟩ := Shape.run_effect (shapeOf i) s
  exact ⟨_, (exec_eq i s).trans h⟩

/-- With the gate open every step answers a next state (R436). -/
theorem step_total {s : State} (h : s.gateOpen) : ∃ t, step s = .next t := by
  cases hi : s.idles with
  | true => exact ⟨_, step_of_idles h hi⟩
  | false =>
    cases hd : s.dispatches with
    | true => exact ⟨_, step_of_dispatches h hi hd⟩
    | false =>
      obtain ⟨t, ht⟩ := exec_total (fetch (wake s)).1 (fetch (wake s)).2
      exact ⟨afterInstr t, by rw [step_eq_runInstr h hi hd, runInstr, ht]; rfl⟩

/-- Settles O7: the fetch decodes those bytes, and encoding the instruction gives them back, so `PC` moves by their
number. -/
theorem stepRunsDecoded : Obligations.StepRunsDecoded := by
  intro s i hgate hi hd hdecode
  have hinstr : (fetch (wake s)).1 = i := by
    have h := (decode_fetchBytes s).symm.trans hdecode
    cases h
    rfl
  have hbytes : encode i = fetchBytes s := (List.append_nil _).symm.trans (encodeAfterDecode _ _ _ hdecode)
  obtain ⟨-, hpast, -⟩ := fetchReadsOneInstruction (wake s)
  rw [step_eq_runInstr hgate hi hd, runInstr, hinstr, hpast, hbytes]
  show finishStep (exec i { s with halted := false, pc := s.pc + BitVec.ofNat 16 (fetchBytes s).length }) = _
  cases exec i { s with halted := false, pc := s.pc + BitVec.ofNat 16 (fetchBytes s).length } <;> rfl

/-! ## The clock -/

/-- A step moves the clock by what it charges (R431, R480). -/
theorem step_charged {s t : State} (h : step s = .next t) : ∃ c, t.elapsed = s.elapsed + c ∧ Charged s t c := by
  obtain ⟨-, ⟨-, rfl⟩ | ⟨-, -, rfl⟩ | ⟨-, -, u, hu, rfl⟩⟩ := step_cases h
  · have hscan := ppuTimingCheck_scan (stepClock 4 s)
    exact ⟨4, hscan.elapsed, .runs hscan.status (by omega) (by omega) rfl⟩
  · have hscan := ppuTimingCheck_scan (dispatch (wake s))
    obtain ⟨u, -, hst, -, hd⟩ := dispatch_effect (wake s)
    refine ⟨16, hscan.elapsed.trans (dispatch_elapsed (wake s)), .runs ?_ (by omega) (by omega) rfl⟩
    rw [hscan.status, hd]
    exact hst
  · have hscan := afterInstr_scan u
    obtain ⟨v, c, rfl, he, hc⟩ := exec_effect hu
    refine ⟨c, hscan.elapsed.trans (congrArg (· + c) he.sameHost.elapsed), ?_⟩
    cases hc with
    | runs status low high four => exact .runs (hscan.status.trans status) low high four
    | stops status zero => exact .stops (fun e => status (hscan.status.symm.trans e)) zero

/-- Settles O15: a charge is of a step that runs on, or nothing. -/
theorem stepAdvancesClock : Obligations.StepAdvancesClock := by
  intro s t h
  obtain ⟨⟨hrun, -⟩, -⟩ := step_cases h
  obtain ⟨c, helapsed, hc⟩ := step_charged h
  refine ⟨fun hgoes => ?_, fun hends => by rw [helapsed, hc.eq_zero hrun hends, Nat.add_zero]⟩
  cases hc with
  | runs _ low high four => exact ⟨c, helapsed, low, high, four⟩
  | stops hends _ => exact absurd hgoes hends

/-! ## The gate -/

theorem State.withinBudget_iff (s : State) :
    s.withinBudget = true ↔ s.budget = .max ∨ ∃ n, s.budget = .upTo n ∧ s.elapsed < n := by
  unfold State.withinBudget
  cases s.budget with
  | upTo n => simp
  | max => simp

/-- Settles O8: a step needs the gate and has a next state behind it; below its budget it charges at most 24. -/
theorem gateDecidesStep : Obligations.GateDecidesStep := by
  refine fun s => ⟨?_, fun t n h hn => ?_⟩
  · rw [← s.withinBudget_iff]
    exact ⟨fun ⟨t, h⟩ => (step_cases h).1, step_total⟩
  · obtain ⟨⟨-, -, hbudget⟩, -⟩ := step_cases h
    obtain ⟨c, helapsed, hc⟩ := step_charged h
    have hbelow : s.elapsed < n := by simpa [State.withinBudget, hn] using hbudget
    have := hc.le
    omega

/-! ## Taking an interrupt -/

/-- The line served is the lowest enabled and pending one, and with it some request is pending (R413). -/
theorem State.served_line (s : State) {line : Nat} (hl : line < 5)
    (hset : (s.raw 0xFFFF &&& s.raw 0xFF0F).getLsbD line = true)
    (hlow : ∀ j < line, (s.raw 0xFFFF &&& s.raw 0xFF0F).getLsbD j = false) :
    lowestLine s.pend = line ∧ (s.pend == 0) = false := by
  have hbit : s.pend.getLsbD line = true := (s.pend_bit hl).trans hset
  refine ⟨lowestLine_eq hl hbit fun j hj => (s.pend_bit (by omega)).trans (hlow j hj), ?_⟩
  rw [beq_eq_false_iff_ne]
  intro hzero
  rw [hzero] at hbit
  exact absurd (BitVec.getLsbD_zero.symm.trans hbit) nofun

/-- Settles O10: the push is two stores, the line the lowest enabled and pending one. -/
theorem dispatchEffect : Obligations.DispatchEffect := by
  intro s line hgate hime hl hset hlow
  obtain ⟨hline, hpend⟩ := s.served_line hl hset hlow
  have hidles : s.idles = false := by rw [State.idles, hpend, Bool.and_false]
  have hdispatches : s.dispatches = true := by rw [State.dispatches, bne, hpend, hime]; rfl
  have hpush : push s.pc (wake s) = write (s.sp - 1) (s.pc.extractLsb' 8 8)
      (write (s.sp - 2) (s.pc.extractLsb' 0 8) { s with halted := false, sp := s.sp - 2 }) := by
    rw [push, write16, wake_sp, show s.sp - 2 + 1 = s.sp - 1 by bv_omega]
    rfl
  have helapsed : (push s.pc (wake s)).elapsed = s.elapsed := (push_effect (wake s) s.pc).sameHost.elapsed
  refine ⟨push s.pc (wake s), hpush, ?_⟩
  rw [step_of_dispatches hgate hidles hdispatches, dispatch_eq, wake_pc, show lowestLine (wake s).pend = line from hline]
  generalize push s.pc (wake s) = p at helapsed ⊢
  rw [← helapsed]
  rfl

end Sys2Proof.Machine
end

section
/-! The joypad move (R441): which presses request line 4. -/

namespace Sys2Proof.Machine

theorem and_ne_zero_iff (x mask : Byte) :
    x &&& mask ≠ 0 ↔ ∃ k < 8, x.getLsbD k = true ∧ mask.getLsbD k = true := by
  rw [← not_iff_not, not_not]
  constructor
  · rintro h ⟨k, -, hx, hm⟩
    have hbit := congrArg (BitVec.getLsbD · k) h
    simp [hx, hm] at hbit
  · intro h
    refine BitVec.eq_of_getLsbD_eq fun k hk => ?_
    rw [BitVec.getLsbD_and, show (0 : Byte).getLsbD k = false from BitVec.getLsbD_zero]
    exact Bool.eq_false_iff.mpr fun hboth => h ⟨k, hk, Bool.and_eq_true_iff.mp hboth⟩

theorem nibble_bits {k : Nat} (hk : k < 8) :
    ((0x0F : Byte).getLsbD k = true ↔ k < 4) ∧ ((0xF0 : Byte).getLsbD k = true ↔ ¬ k < 4) := by
  interval_cases k <;> decide

/-- Whether the new joypad state puts a key of a selected group down (R441). -/
def State.pressHits (s : State) (new : Byte) : Bool :=
  let sel := s.raw 0xFF00 &&& 0x30
  let down := s.joypad &&& ~~~new
  (!sel.getLsbD 4 && (down &&& 0x0F) != 0) || (!sel.getLsbD 5 && (down &&& 0xF0) != 0)

theorem setJoypad_eq_requestIf (new : Byte) (s : State) :
    setJoypad new s =
      requestIf (s.pressHits new) 4 (resolveKeys (s.raw 0xFF00 &&& 0x30) { s with joypad := new }) := rfl

/-- The low nibble is the group that bit 4 of P1 selects, the high one that of bit 5 (R65). -/
theorem State.pressHits_iff (s : State) (new : Byte) :
    s.pressHits new = true ↔
      ∃ k < 8, s.joypad.getLsbD k = true ∧ new.getLsbD k = false ∧
        (s.raw 0xFF00).getLsbD (if k < 4 then 4 else 5) = false := by
  have hdown : ∀ k < 8, ((s.joypad &&& ~~~new).getLsbD k = true ↔ s.joypad.getLsbD k = true ∧ new.getLsbD k = false) := by
    intro k hk
    simp [hk]
  have h4 : (s.raw 0xFF00 &&& 0x30).getLsbD 4 = (s.raw 0xFF00).getLsbD 4 := by simp
  have h5 : (s.raw 0xFF00 &&& 0x30).getLsbD 5 = (s.raw 0xFF00).getLsbD 5 := by simp
  unfold State.pressHits
  simp only [h4, h5, Bool.or_eq_true, Bool.and_eq_true, Bool.not_eq_true', bne_iff_ne, and_ne_zero_iff]
  constructor
  · rintro (⟨hsel, k, hk, hkey, hgroup⟩ | ⟨hsel, k, hk, hkey, hgroup⟩)
    · obtain ⟨hold, hnew⟩ := (hdown k hk).mp hkey
      exact ⟨k, hk, hold, hnew, by rwa [if_pos ((nibble_bits hk).1.mp hgroup)]⟩
    · obtain ⟨hold, hnew⟩ := (hdown k hk).mp hkey
      exact ⟨k, hk, hold, hnew, by rwa [if_neg ((nibble_bits hk).2.mp hgroup)]⟩
  · rintro ⟨k, hk, hold, hnew, hsel⟩
    have hkey := (hdown k hk).mpr ⟨hold, hnew⟩
    by_cases hlow : k < 4
    · exact .inl ⟨by rwa [if_pos hlow] at hsel, k, hk, hkey, (nibble_bits hk).1.mpr hlow⟩
    · exact .inr ⟨by rwa [if_neg hlow] at hsel, k, hk, hkey, (nibble_bits hk).2.mpr hlow⟩

theorem resolveKeys_raw_self (sel : Byte) (s : State) :
    (resolveKeys sel s).raw 0xFF00 = 0xC0 ||| sel ||| s.keysFor sel := s.raw_setRaw_self _ _

theorem resolveKeys_raw_other (sel : Byte) (s : State) {k : Nat} (hk : k ≠ 0xFF00) : (resolveKeys sel s).raw k = s.raw k :=
  s.raw_setRaw_ne hk _

/-- Settles O54: P1 resolved again for the selection it holds, and the request where a press hits. -/
theorem setJoypadMove : Obligations.SetJoypad := by
  intro new s
  have hif : (setJoypad new s).raw 0xFF0F = if s.pressHits new = true then s.raw 0xFF0F ||| 0x10 else s.raw 0xFF0F := by
    rw [setJoypad_eq_requestIf, requestIf_raw_if, resolveKeys_raw_other _ _ (by omega)]
    rfl
  refine ⟨setJoypad new s, rfl, by rw [setJoypad_eq], by rw [State.getJoypad, setJoypad_eq], ?_, fun hpress => ?_,
    fun hnone => ?_, fun k hp1 hif => ?_, setJoypad_eq new s⟩
  · rw [setJoypad_eq_requestIf, requestIf_raw _ _ _ _ (by omega), resolveKeys_raw_self, State.keysFor_and_0x30,
      State.keysFor_eq_nibbles]
  · rw [hif, if_pos ((s.pressHits_iff new).mpr hpress)]
  · refine hif.trans (if_neg fun hhit => ?_)
    obtain ⟨k, hk, hold, hnew, hsel⟩ := (s.pressHits_iff new).mp hhit
    exact absurd (hsel.symm.trans (hnone k hk hold hnew)) nofun
  · rw [setJoypad_eq_requestIf, requestIf_raw _ _ _ _ hif, resolveKeys_raw_other _ _ hp1]
    rfl

end Sys2Proof.Machine
end
